-- ==== Sys2Proof/Word.lean ====
section
/-!
DEFINITION. The data the two ports carry and the indices of the replicated blocks.
-/
namespace Sys2Proof

/-- One byte. -/
abbrev Byte := BitVec 8

/-- An address of either port: 40 bits (R149). -/
abbrev Addr := BitVec 40

/-- The 64 data bytes of a beat (R149). -/
abbrev Beat := Vector Byte 64

/-- The 64 byte enables of a write beat, bit `i` for byte `i` (R149). -/
abbrev Enables := BitVec 64

/-- A value of the 32-bit microsecond Timebase (R162). -/
abbrev Time := BitVec 32

/-- Cameras 0 to 5. -/
abbrev CamId := Fin 6

/-- Screens 0 to 2. -/
abbrev ScrId := Fin 3

/-- Entrance lines 0 to 3. -/
abbrev LineId := Fin 4

/-- Descriptors 0 to 15. -/
abbrev DescId := Fin 16

end Sys2Proof
end

