-- ==== Sys2Proof/Syntax.lean ====
section
/-!
DEFINITION. The commands of the block: one constructor per row of spec/opcode_table.json, with the
operands the row's event has. A beat carries the tag of the request it belongs to.
-/
namespace Sys2Proof

/-- To which upstream request a beat belongs (R149): its stream, and whether it is the request's
last beat. -/
structure PortTag where
  stream : Fin 16
  last : Bool
  deriving DecidableEq, Repr

/-- The direction of an upstream beat, with a write beat's data and byte enables (R149). -/
inductive BeatOp where
  | read
  | write (data : Beat) (en : Enables)
  deriving DecidableEq, Repr

/-- The owners of the eleven request words (R163). -/
inductive Owner where
  | part
  | camera (c : CamId)
  | screen (s : ScrId)
  | engine
  deriving DecidableEq, Repr

/-- The tag and index bytes of a request write, each `none` where its byte enable is clear: the word
then keeps the byte of the previous request (R163). -/
structure ReqFields where
  tag : Option Byte
  index : Option Byte
  deriving DecidableEq, Repr

/-- The straps, read at power-on reset alone (R162): address bits 16 to 39 of the control area base
and the reference frequency in whole megahertz. -/
structure Straps where
  base : BitVec 24
  mhz : Nat
  deriving DecidableEq, Repr

/-- The levels of the entrance and sync inputs as they stand at power-on reset (R78, R101);
`true` is high. -/
structure Pins where
  entrance : Vector Bool 4
  sync : Vector Bool 3
  deriving DecidableEq, Repr

/-- The commands, in the order of spec/opcode_table.json. -/
inductive Instr where
  | powerOnReset (straps : Straps) (pins : Pins)
  | timebaseTick
  | entrancePinChange (l : LineId) (level : Bool)
  | syncLineChange (sc : ScrId) (level : Bool)
  | staleTimerExpiry (c : CamId)
  | lostTimerExpiry (c : CamId)
  | gapTimerExpiry (c : CamId)
  | filterTimerExpiry (l : LineId)
  | offsetTimerExpiry (sc : ScrId)
  | cycleTimerExpiry (sc : ScrId)
  | intakeWriteBeat (p : PortTag) (a : Addr) (d : Beat) (en : Enables)
  | intakeReadBeat (p : PortTag) (a : Addr)
  | intakeReadReturn
  | intakeOffBeat (p : PortTag) (a : Addr) (op : BeatOp)
  | screenReadBeat (p : PortTag) (a : Addr)
  | screenWriteBeat (p : PortTag) (a : Addr) (d : Beat) (en : Enables)
  | screenOffBeat (p : PortTag) (a : Addr) (op : BeatOp)
  | plainBeat (p : PortTag) (a : Addr) (op : BeatOp)
  | configWrite (p : PortTag) (a : Addr) (d : Beat) (en : Enables)
  | descriptorWrite (p : PortTag) (a : Addr) (d : Beat) (en : Enables)
  | passReadReturn
  | attentionSummaryRead (p : PortTag) (a : Addr)
  | consumerIndexWrite (p : PortTag) (v : Byte)
  | liveWriteAbsorbed (p : PortTag) (a : Addr) (d : Beat) (en : Enables)
  | unknownCode (p : PortTag) (o : Owner) (code : Byte) (f : ReqFields)
  | restart (p : PortTag) (f : ReqFields)
  | restartWaitIdle (p : PortTag) (f : ReqFields)
  | arm (p : PortTag) (c : CamId) (f : ReqFields)
  | disarm (p : PortTag) (c : CamId) (f : ReqFields)
  | skip (p : PortTag) (c : CamId) (f : ReqFields)
  | reset (p : PortTag) (c : CamId) (f : ReqFields)
  | evalRun (p : PortTag) (c : CamId) (f : ReqFields)
  | evalPause (p : PortTag) (c : CamId) (f : ReqFields)
  | evalStop (p : PortTag) (c : CamId) (f : ReqFields)
  | relearn (p : PortTag) (c : CamId) (f : ReqFields)
  | enable (p : PortTag) (sc : ScrId) (f : ReqFields)
  | disable (p : PortTag) (sc : ScrId) (f : ReqFields)
  | commit (p : PortTag) (sc : ScrId) (f : ReqFields)
  | engineEnable (p : PortTag) (f : ReqFields)
  | engineDisable (p : PortTag) (f : ReqFields)
  | start (p : PortTag) (f : ReqFields)
  | snapshotArm (p : PortTag) (f : ReqFields)
  | abort (p : PortTag) (f : ReqFields)
  | arbiterGrant
  | composerFetchHanding
  | composerFetchReturn
  | descriptorLoad
  | descriptorLoadReturn
  | copyRead
  | copyReadReturn
  | copyWrite
  | descriptorWriteBack
  | armWrite
  | reportHanding
  deriving DecidableEq, Repr

end Sys2Proof
end

