-- ==== Sys2Proof/WellFormed.lean ====
section
/-!
DEFINITION. What a command's operands must be for the command to be the row of the table it stands for.
The meanings take any operands; nothing is assumed of them.
-/
namespace Sys2Proof

/-- A beat address: aligned to 64 bytes (R149). -/
def alignedBeat (a : Addr) : Bool := a.toNat % 64 == 0

/-- The offset a beat in the control area has there: the area's base is a multiple of 64 KiB (R162). -/
def areaOffset (a : Addr) : Nat := a.toNat % 65536

/-- The codes an owner takes: 1 for RESTART, 1 to 8 for a camera, 1 to 3 for a screen, 1 to 5 for the
engine (R164, 11.6). -/
def Owner.codes : Owner → Nat
  | .part => 1
  | .camera _ => 8
  | .screen _ => 3
  | .engine => 5

/-- The operands fit the row. -/
def Instr.wf : Instr → Bool
  | .intakeWriteBeat _ a _ _ => alignedBeat a
  | .intakeReadBeat _ a => alignedBeat a
  | .intakeOffBeat _ a _ => alignedBeat a
  | .screenReadBeat _ a => alignedBeat a
  | .screenWriteBeat _ a _ _ => alignedBeat a
  | .screenOffBeat _ a _ => alignedBeat a
  | .plainBeat _ a _ => alignedBeat a
  | .configWrite _ a _ _ => alignedBeat a && areaOffset a < 0x4000
  | .descriptorWrite _ a _ _ => alignedBeat a && 0x4000 ≤ areaOffset a && areaOffset a < 0x4400
  | .attentionSummaryRead _ a => areaOffset a == 0x8040
  | .liveWriteAbsorbed _ a _ _ => alignedBeat a && 0x8000 ≤ areaOffset a && areaOffset a < 0x9000
  | .unknownCode _ o code _ => o.codes < code.toNat
  | .restart _ f => f.index == some 0
  | .restartWaitIdle _ f => f.index.isSome && f.index != some 0
  | .powerOnReset _ _ => true
  | .timebaseTick => true
  | .entrancePinChange _ _ => true
  | .syncLineChange _ _ => true
  | .staleTimerExpiry _ => true
  | .lostTimerExpiry _ => true
  | .gapTimerExpiry _ => true
  | .filterTimerExpiry _ => true
  | .offsetTimerExpiry _ => true
  | .cycleTimerExpiry _ => true
  | .intakeReadReturn => true
  | .passReadReturn => true
  | .consumerIndexWrite _ _ => true
  | .arm _ _ _ => true
  | .disarm _ _ _ => true
  | .skip _ _ _ => true
  | .reset _ _ _ => true
  | .evalRun _ _ _ => true
  | .evalPause _ _ _ => true
  | .evalStop _ _ _ => true
  | .relearn _ _ _ => true
  | .enable _ _ _ => true
  | .disable _ _ _ => true
  | .commit _ _ _ => true
  | .engineEnable _ _ => true
  | .engineDisable _ _ => true
  | .start _ _ => true
  | .snapshotArm _ _ => true
  | .abort _ _ => true
  | .arbiterGrant => true
  | .composerFetchHanding => true
  | .composerFetchReturn => true
  | .descriptorLoad => true
  | .descriptorLoadReturn => true
  | .copyRead => true
  | .copyReadReturn => true
  | .copyWrite => true
  | .descriptorWriteBack => true
  | .armWrite => true
  | .reportHanding => true

end Sys2Proof
end

