-- ==== Sys2Proof/Decode.lean ====
section
/-!
DEFINITION. The table gives no row any bits: commands are events and register accesses, not words of a
program. No word spells a command.
-/
namespace Sys2Proof

/-- The command a word spells: none, for every word. -/
def decodeTableWord (_ _ : Nat) : Option Instr := none

end Sys2Proof
end

