-- ==== Sys2Proof/Config.lean ====
section
/-!
DEFINITION. What stands outside the part: the values the spec leaves open (free values, without a
body), and the strap and pin levels that `State.reset` takes as its example of a power-on reset.
-/
namespace Sys2Proof.Config

/-- The byte DRAM holds at an address that nothing has written since the model began. FREE VALUE:
the spec calls it "whatever DRAM holds" (R27). Log entry 2. -/
opaque powerOnByte : Nat → Byte

/-- The byte a live page read shows where the item of the field is absent (an idle timer's expiry,
a FREE slot's frame sequence, the fields of an absent intake record) and the record formats state no
value. First argument: which live read it is; second: the offset in the control area. FREE VALUE.
Log entry 18. -/
opaque absentByte : Nat → Nat → Byte

/-- Whether a screen read that RESTART completes carries the sideband flags from before the reset
of the other blocks (true) or from after it (false), by the name of its table entry. FREE VALUE: R121
and R161 make both one event. Log entry 17. -/
opaque restartFlagsBefore : Nat → Bool

/-- Whether a completion that falls due together with a RELEARN taken first is evaluated where the count that the
RELEARN cleared makes it due (R68, row 1), rather than counted from 0 (R39, R47), by camera, frame sequence and
Timebase. FREE VALUE: the rules give two outcomes. Log entry 31. -/
opaque relearnEvaluates : Nat → BitVec 32 → BitVec 32 → Bool

/-- The control area base of the operating sequences, 0F000000h, as address bits 16 to 39
(chapter 12). DESIGN CHOICE for `State.reset`; log entry 1. -/
def strapBase : BitVec 24 := 0x0F00

/-- The reference frequency strapped at `State.reset`, in MHz. DESIGN CHOICE; log entry 1. -/
def strapMhz : Nat := 100

end Sys2Proof.Config
end

