-- ==== Sys2Proof/Machine/State.lean ====
section
/-!
DEFINITION. Everything the spec gives the part, as plain data, and the part right after a power-on
reset. Working settings are held byte for byte as software wrote them (R154, R178); the clamps of the
job chapters stand in Operands.lean, where a setting is read.
-/
namespace Sys2Proof.Machine

/-- No command of this part ends in a fault: the spec describes an effect for every one of them. -/
inductive Fault
  deriving DecidableEq, Repr

/-- Why a command has no outcome. -/
inductive Refusal where
  /-- Raised by exec's arm for a row of the table that has no meaning yet; safe: the model stops
  where the part goes on. No arm answers it. -/
  | notModelled (mnemonic : String)
  deriving DecidableEq, Repr

/-! ### Working settings -/

/-- One camera's record of the config page, bytes 00h to 2Fh, field by field (R1, R37, R45, 11.2). -/
structure CamSettings where
  intakeBase : BitVec 64
  slotBase : BitVec 64
  w : BitVec 16
  h : BitVec 16
  k : Byte
  staleFactor : Byte
  lostExponent : Byte
  gapRelax : Byte
  period : BitVec 32
  gapTime : BitVec 16
  earlyLines : BitVec 16
  evalInterval : Byte
  darkFloor : Byte
  brightCeiling : Byte
  learnCount : Byte
  learnShift : Byte
  watchShift : Byte
  dirtRatio : Byte
  blockFloor : Byte
  minTexture : BitVec 16
  confirmCount : Byte
  warnTiles : Byte
  clearTiles : Byte
  restartDelay : Byte
  pattern : Byte
  recovery : Byte
  deriving DecidableEq, Repr

/-- The power-on defaults of R1, R37 and R45. -/
def CamSettings.default : CamSettings where
  intakeBase := 0
  slotBase := 0
  w := 0
  h := 0
  k := 4
  staleFactor := 6
  lostExponent := 4
  gapRelax := 0
  period := 40000
  gapTime := 2000
  earlyLines := 0
  evalInterval := 2
  darkFloor := 6
  brightCeiling := 248
  learnCount := 32
  learnShift := 2
  watchShift := 6
  dirtRatio := 6
  blockFloor := 12
  minTexture := 512
  confirmCount := 20
  warnTiles := 6
  clearTiles := 2
  restartDelay := 25
  pattern := 1
  recovery := 0

/-- Four bytes of YUYV data (00_scope, Pixel data). -/
structure Macropixel where
  y0 : Byte
  u : Byte
  y1 : Byte
  v : Byte
  deriving DecidableEq, Repr

/-- A pane entry, byte for byte (11.2). -/
structure Pane where
  camera : Byte
  hdec : Byte
  vdec : Byte
  flags : Byte
  x : BitVec 16
  y : BitVec 16
  width : BitVec 16
  height : BitVec 16
  srcX : BitVec 16
  srcY : BitVec 16
  deriving DecidableEq, Repr

/-- A pane count and eight pane entries (R84). -/
structure Layout where
  count : Byte
  panes : Vector Pane 8
  deriving DecidableEq, Repr

/-- The normal layout and the four entrance layouts of a screen (R84). -/
structure Layouts where
  normal : Layout
  entrance : Vector Layout 4
  deriving DecidableEq, Repr

/-- A pane entry with every field 0. -/
def Pane.zero : Pane := ⟨0, 0, 0, 0, 0, 0, 0, 0, 0, 0⟩

/-- A layout with pane count 0 and every pane field 0. -/
def Layout.zero : Layout := ⟨0, Vector.replicate 8 Pane.zero⟩

/-- Five empty layouts. -/
def Layouts.zero : Layouts := ⟨Layout.zero, Vector.replicate 4 Layout.zero⟩

/-- One screen's record of the config page, its staged layouts among it (R80, 11.2). -/
structure ScrSettings where
  base : BitVec 64
  ws : BitVec 16
  hs : BitVec 16
  latchMode : Byte
  syncEdge : Byte
  offsetTime : BitVec 16
  cyclePeriod : BitVec 32
  border : Byte
  background : Macropixel
  lost : Macropixel
  stale : Macropixel
  warn : Macropixel
  staged : Layouts
  deriving DecidableEq, Repr

/-- The power-on defaults of R80. -/
def ScrSettings.default : ScrSettings where
  base := 0
  ws := 0
  hs := 0
  latchMode := 0
  syncEdge := 0
  offsetTime := 0
  cyclePeriod := 20000
  border := 4
  background := ⟨16, 128, 16, 128⟩
  lost := ⟨128, 128, 128, 128⟩
  stale := ⟨210, 16, 210, 146⟩
  warn := ⟨81, 90, 81, 240⟩
  staged := Layouts.zero

/-- One entrance line's record (R71, 11.2): the polarity byte, bit 0 set for ACTIVE_LOW, and the
filter time. -/
structure LineSettings where
  polarity : Byte
  filterTime : BitVec 16
  deriving DecidableEq, Repr

/-- The power-on defaults of R71. -/
def LineSettings.default : LineSettings := ⟨0, 20000⟩

/-- The part settings record (R153, 11.2): kind masks and the interrupt enable byte. -/
structure PartSettings where
  masks : BitVec 16
  intEnable : Byte
  deriving DecidableEq, Repr

/-! ### Cameras -/

/-- The effective geometry of a camera (R2). -/
structure CamGeom where
  intakeBase : Nat
  slotBase : Nat
  w : Nat
  h : Nat
  k : Nat
  deriving DecidableEq, Repr

/-- The channel states of R3. -/
inductive Channel where
  | disarmed | waiting | live | stale | lost
  deriving DecidableEq, Repr

/-- The slot states of R17, each with the fields present in it: the frame sequence, the lines done
while FILLING or TORN, the completion time while READY. -/
inductive SlotContent where
  | free
  | filling (seq : BitVec 32) (lines : Nat)
  | ready (seq : BitVec 32) (doneAt : Time)
  | torn (seq : BitVec 32) (lines : Nat)
  deriving DecidableEq, Repr

/-- A record of the slot table (R17). The holder set is a word of 13 flags, numbered as the live
page shows them (11.5): bit `s * 4 + r * 2 + f` for a screen's tag, bit 12 for SNAP. -/
structure Slot where
  content : SlotContent
  holders : BitVec 13
  deriving DecidableEq, Repr

/-- The intake record (R7). DROPPING is set exactly when the target slot is absent. -/
structure IntakeRec where
  cursor : Nat
  linesDone : Nat
  target : Option Nat
  disordered : Bool
  seq : BitVec 32
  lastBeat : Time
  deriving DecidableEq, Repr

/-- The two accumulators of a tile (R30). -/
structure TileSum where
  luma : Nat
  diff : Nat
  deriving DecidableEq, Repr

/-- The last-values record (R30, R36). -/
structure LastValues where
  seq : BitVec 32
  texture : Vector Nat 48
  mean : Vector Nat 48
  camMean : Nat
  fit : Bool
  deriving DecidableEq, Repr

/-- A Tile Statistics Unit (R30). -/
structure TileStats where
  sums : Vector TileSum 48
  carry : Nat
  last : Option LastValues
  deriving DecidableEq, Repr

/-- The accumulators as a frame start leaves them (R31). -/
def TileSum.zero : TileSum := ⟨0, 0⟩

/-- A Tile Statistics Unit after reset (R30). -/
def TileStats.zero : TileStats := ⟨Vector.replicate 48 TileSum.zero, 0, none⟩

/-- The mode last requested of an evaluator (R43). -/
inductive EvMode where
  | stop | run | pause
  deriving DecidableEq, Repr

/-- Where an evaluator returns to from HOLD (R43). -/
inductive Resume where
  | learn | watch
  deriving DecidableEq, Repr

/-- The evaluator states of R43. The hold causes and the resume target are present in HOLD and in no
other state. -/
inductive EvState where
  | off
  | learn
  | watch
  | hold (paused stale : Bool) (resume : Resume)
  | restartWait
  deriving DecidableEq, Repr

/-- The verdicts of R43. -/
inductive Verdict where
  | clean | suspect | dirty
  deriving DecidableEq, Repr

/-- A tile's last three votes (R44). -/
structure History where
  oldest : Bool
  middle : Bool
  newest : Bool
  deriving DecidableEq, Repr

/-- A tile record of the dirt tables (R44). -/
structure Tile where
  baseline : Nat
  history : History
  count : Nat
  confirmed : Bool
  deriving DecidableEq, Repr

/-- A tile record after table clearing (R47). -/
def Tile.zero : Tile := ⟨0, ⟨false, false, false⟩, 0, false⟩

/-- A Lens Evaluator (R43, R44), with the eligibility count of R39 and the unfit count of R40.
`relearnCount` is the model's own: the eligibility count that a RELEARN of the present moment cleared, from
which a completion that falls due together with it may be counted (R68, row 1; log entry 31). -/
structure Evaluator where
  state : EvState
  mode : EvMode
  learnProgress : Nat
  restartCount : Nat
  eligible : Nat
  unfit : BitVec 16
  level : Nat
  verdict : Verdict
  tiles : Vector Tile 48
  relearnCount : Option Nat
  deriving DecidableEq, Repr

/-- An evaluator after reset (R70). -/
def Evaluator.zero : Evaluator where
  state := .off
  mode := .stop
  learnProgress := 0
  restartCount := 0
  eligible := 0
  unfit := 0
  level := 0
  verdict := .clean
  tiles := Vector.replicate 48 Tile.zero
  relearnCount := none

/-- One camera: its working settings, Intake Tracker (R3 to R20), Tile Statistics Unit, Lens
Evaluator and map count (R169). -/
structure Camera where
  cfg : CamSettings
  geom : CamGeom
  chan : Channel
  slots : List Slot
  ready : List Nat
  intake : Option IntakeRec
  dropRun : Bool
  started : BitVec 32
  completed : BitVec 32
  truncated : BitVec 32
  dropped : BitVec 32
  staleTimer : Option Time
  lostTimer : Option Time
  gapTimer : Option Time
  stats : TileStats
  eval : Evaluator
  mapCount : BitVec 16
  deriving DecidableEq, Repr

/-- A FREE slot that nobody holds. -/
def Slot.empty : Slot := ⟨.free, 0⟩

/-- A camera after power-on reset (R27, R30, R70, R169). -/
def Camera.powerOn : Camera where
  cfg := CamSettings.default
  geom := ⟨0, 0, 0, 0, 4⟩
  chan := .disarmed
  slots := List.replicate 4 Slot.empty
  ready := []
  intake := none
  dropRun := false
  started := 0
  completed := 0
  truncated := 0
  dropped := 0
  staleTimer := none
  lostTimer := none
  gapTimer := none
  stats := TileStats.zero
  eval := Evaluator.zero
  mapCount := 0

/-! ### Entrance lines -/

/-- An entrance line (R71). Levels: `true` is high for the pin, active for raw and accepted. -/
structure Line where
  cfg : LineSettings
  pin : Bool
  raw : Bool
  accepted : Bool
  filterTimer : Option Time
  edges : BitVec 16
  rejected : BitVec 16
  deriving DecidableEq, Repr

/-! ### Screens and the Pane Composer -/

/-- The latch modes of R80. -/
inductive LatchMode where
  | readStart | sync | cycle
  deriving DecidableEq, Repr

/-- The effective geometry of a screen (R81). -/
structure ScrGeom where
  base : Nat
  ws : Nat
  hs : Nat
  mode : LatchMode
  deriving DecidableEq, Repr

/-- The screen states of R82. -/
inductive ScrState where
  | disabled | waitLatch | running
  deriving DecidableEq, Repr

/-- Which committed layout a latch chose (R91). -/
inductive LayoutChoice where
  | normal
  | entrance (l : LineId)
  deriving DecidableEq, Repr

/-- The overlays of R83. -/
inductive Overlay where
  | none | fill | stale | warn
  deriving DecidableEq, Repr

/-- A camera entry of a hold set (R83); the camera number is its place in the set. -/
structure CamEntry where
  primary : Option Nat
  fallback : Option Nat
  overlay : Overlay
  deriving DecidableEq, Repr

/-- A hold set (R83, R90): layout choice, layout, border width and colours as the latch read them,
and a camera entry for each camera the layout uses. -/
structure HoldSet where
  choice : LayoutChoice
  layout : Layout
  border : Nat
  background : Macropixel
  lost : Macropixel
  stale : Macropixel
  warn : Macropixel
  cams : Vector (Option CamEntry) 6
  deriving DecidableEq, Repr

/-- Where a source macropixel comes from (R113): the camera, the slot, the address of its byte 0, and
whether Y0 and Y1 are exchanged. -/
structure Source where
  cam : CamId
  slot : Nat
  addr : Nat
  swap : Bool
  deriving DecidableEq, Repr

/-- An item of a macropixel plan (R103): a colour, or a source with the macropixel once it has been
formed. -/
inductive PlanItem where
  | colour (mp : Macropixel)
  | source (src : Source) (formed : Option Macropixel)
  deriving DecidableEq, Repr

/-- The hold set an entry was composed under (R103). -/
inductive SetRole where
  | active | retiring
  deriving DecidableEq, Repr

/-- WAITING, or FETCHING with the set, the plan and the outstanding fetches (R103). -/
inductive EntryState where
  | waiting
  | fetching (role : SetRole) (plan : List PlanItem) (outstanding : Nat)
  deriving DecidableEq, Repr

/-- The place of a beat in an upstream response: which request, and which beat of it. -/
structure RespRef where
  req : Nat
  beat : Nat
  deriving DecidableEq, Repr

/-- An entry of a composition table (R103). Its line and first macropixel follow from the window
offset (R105). `id` is the model's own name for the entry. -/
structure Entry where
  id : Nat
  stream : Fin 16
  resp : RespRef
  offset : Nat
  state : EntryState
  deriving DecidableEq, Repr

/-- A composer fetch: the entry that needs it and the source beat (R115). -/
structure Fetch where
  screen : ScrId
  entry : Nat
  cam : CamId
  slot : Nat
  addr : Nat
  deriving DecidableEq, Repr

/-- One screen: its working settings, Screen Latch Controller (R83) and composition table (R103). -/
structure Screen where
  cfg : ScrSettings
  geom : ScrGeom
  state : ScrState
  committed : Layouts
  pendingCommit : Option Byte
  active : Option HoldSet
  retiring : Option HoldSet
  choice : Option LayoutChoice
  lastLine : Option Nat
  sync : Bool
  offsetTimer : Option Time
  cycleTimer : Option Time
  owed : Bool
  latchCount : BitVec 32
  ignoredSyncs : BitVec 16
  table : List Entry
  misuse : Bool
  misuseCount : BitVec 16
  deriving DecidableEq, Repr

/-- A screen after power-on reset with its sync line at the level given (R101, R103). -/
def Screen.powerOn (sync : Bool) : Screen where
  cfg := ScrSettings.default
  geom := ⟨0, 0, 0, .readStart⟩
  state := .disabled
  committed := Layouts.zero
  pendingCommit := none
  active := none
  retiring := none
  choice := none
  lastLine := none
  sync := sync
  offsetTimer := none
  cycleTimer := none
  owed := false
  latchCount := 0
  ignoredSyncs := 0
  table := []
  misuse := false
  misuseCount := 0

/-! ### The Snapshot Engine -/

/-- The engine states of R130. -/
inductive EngState where
  | disabled | idle | loading | copying | waitingFrame | storing
  deriving DecidableEq, Repr

/-- The results of R123 and the causes of R141. -/
inductive SnapResult where
  | copied | spent | badDest | noFrame | stale | aborted | linkDisabled
  deriving DecidableEq, Repr

/-- The descriptor modes of R123. -/
inductive DescMode where
  | frame | burst | crop
  deriving DecidableEq, Repr

/-- The trigger sources of R123. -/
inductive Trigger where
  | none
  | entrance (l : LineId) (active : Bool)
  | cameraDirty
  | cameraStale
  deriving DecidableEq, Repr

/-- A trigger copy (R125), byte for byte: bytes 00h, 01h, 05h, 06h, 07h, 10h and 11h of the record. -/
structure TriggerCopy where
  enable : Byte
  armed : Byte
  camera : Byte
  source : Byte
  edge : Byte
  remaining : BitVec 16
  deriving DecidableEq, Repr

/-- A trigger copy after power-on reset (R125). -/
def TriggerCopy.zero : TriggerCopy := ⟨0, 0, 0, 0, 0, 0⟩

/-- The loaded copy (R123, R132), its fields read from the record's bytes. -/
structure Loaded where
  enable : Bool
  armed : Bool
  notify : Bool
  link : Bool
  target : DescId
  mode : DescMode
  camera : Nat
  trigger : Trigger
  destBase : Nat
  remaining : BitVec 16
  places : BitVec 16
  nextPlace : BitVec 16
  cropX : BitVec 16
  cropY : BitVec 16
  cropW : BitVec 16
  cropH : BitVec 16
  lastResult : Byte
  lastSeq : BitVec 32
  completions : BitVec 16
  deriving DecidableEq, Repr

/-- An entry of the held completion list (R129). -/
structure HeldDone where
  desc : DescId
  finishes : Nat
  camera : Nat
  lastSeq : BitVec 32
  nextPlace : BitVec 16
  deriving DecidableEq, Repr

/-- How far a copy has come (R134, R135): the rectangle, the slot's address, frame width and place
address it works with, the reads handed and returned, the place bytes returned and not yet written,
and the destination beats written. The model's own bookkeeping of one copy. -/
structure CopyRun where
  slotAddr : Nat
  frameW : Nat
  x : Nat
  y : Nat
  w : Nat
  h : Nat
  placeAddr : Nat
  readsSent : Nat
  readsBack : Nat
  buffer : List Byte
  written : Nat
  deriving DecidableEq, Repr

/-- Whether the present run is being ended early: by ABORT (R142) or by a RESTART that waits (R148). -/
inductive Ending where
  | none | abort | restart
  deriving DecidableEq, Repr

/-- The Snapshot Engine (R125, R128, R129). The fields from `loadHanded` on are the model's own
bookkeeping of the run in progress: whether its load has been handed; whether ARM(n) has been taken
while the load was out; the copy's progress; whether the run has copied and whether it has written a
SNAP_ENDED (R138, R139); its early end; whether ABORT was taken in STORING; and the run's number,
by which the returns of an abandoned run's reads are told from those of a later run (R148). -/
structure Engine where
  state : EngState
  enable : Bool
  pending : BitVec 16
  continuation : Option DescId
  held : List HeldDone
  running : Option DescId
  loaded : Option Loaded
  source : Option (CamId × Nat)
  coalesced : BitVec 16
  copies : Vector TriggerCopy 16
  armOwed : BitVec 16
  loadHanded : Bool
  armLate : Bool
  copy : Option CopyRun
  copied : Bool
  ended : Bool
  ending : Ending
  cut : Bool
  run : Nat
  deriving DecidableEq, Repr

/-- The engine after power-on reset (R147, R128). -/
def Engine.powerOn : Engine where
  state := .disabled
  enable := false
  pending := 0
  continuation := none
  held := []
  running := none
  loaded := none
  source := none
  coalesced := 0
  copies := Vector.replicate 16 TriggerCopy.zero
  armOwed := 0
  loadHanded := false
  armLate := false
  copy := none
  copied := false
  ended := false
  ending := .none
  cut := false
  run := 0

/-! ### Reports, requests and the live page -/

/-- The report kinds of R174. -/
inductive Kind where
  | camLive | camStale | camLost | frameTruncated | dropBegin | learnDone | verdict
  | layoutChanged | windowMisuse | configIgnored | snapDone | snapEnded
  deriving DecidableEq, Repr

/-- A report record (R172, 11.4). -/
structure Record where
  kind : Kind
  source : Byte
  seq : Byte
  time : Time
  detail0 : BitVec 32
  detail1 : BitVec 32
  deriving DecidableEq, Repr

/-- The Report Writer (R171). -/
structure Ring where
  producer : BitVec 6
  consumer : BitVec 6
  staging : List Record
  seq : Byte
  overflow : Bool
  lost : BitVec 16
  intEnable : Bool
  deriving DecidableEq, Repr

/-- The Report Writer after reset (R171). -/
def Ring.powerOn : Ring := ⟨0, 0, [], 0, false, 0, false⟩

/-- The attention summary (R170). -/
structure Attention where
  camera : Bool
  eval : Bool
  screen : Bool
  snap : Bool
  config : Bool
  deriving DecidableEq, Repr

/-- The attention summary with every group clear. -/
def Attention.clear : Attention := ⟨false, false, false, false, false⟩

/-- The results an answer word can give (R165). -/
inductive Result where
  | done | inProgress | busy | refusedState | geometry | overlap | disabled | unknownCode
  deriving DecidableEq, Repr

/-- A request word and its answer word (R163, R165). `openTag` is present while open is set. -/
structure Mailbox where
  code : Byte
  tag : Byte
  index : Byte
  ansTag : Byte
  result : Result
  openTag : Option Byte
  deriving DecidableEq, Repr

/-- A request word and its answer word after power-on reset (R163, R165). -/
def Mailbox.powerOn : Mailbox := ⟨0, 0, 0, 0, .done, none⟩

/-- The eleven request words with their answer words (R163). -/
structure Words where
  part : Mailbox
  cams : Vector Mailbox 6
  screens : Vector Mailbox 3
  engine : Mailbox
  deriving DecidableEq, Repr

/-- The eleven words after power-on reset. -/
def Words.powerOn : Words :=
  ⟨Mailbox.powerOn, Vector.replicate 6 Mailbox.powerOn, Vector.replicate 3 Mailbox.powerOn,
    Mailbox.powerOn⟩

/-! ### The two ports and the Memory Port Arbiter -/

/-- The four sideband flags (R160). -/
structure SideFlags where
  dirtyAny : Bool
  viewLoss : Bool
  reports : Bool
  snapBusy : Bool
  deriving DecidableEq, Repr

/-- A formed beat of a read response (R161). -/
structure RespBeat where
  data : Beat
  flags : SideFlags
  deriving DecidableEq, Repr

/-- An upstream request that has been accepted at least in part and whose response has not been
returned (R149, R156). A write's response carries no beats. `closed`: its last beat has been
accepted. `id` is the model's own name for it. -/
structure Resp where
  id : Nat
  stream : Fin 16
  isWrite : Bool
  beats : List (Option RespBeat)
  closed : Bool
  deriving DecidableEq, Repr

/-- Something the upstream port takes: a beat, or a live page write that carries one request or the
consumer index alone (R149, R163, R175). -/
inductive UpItem where
  | beat (p : PortTag) (a : Addr) (op : BeatOp)
  | request (p : PortTag) (o : Owner) (code : Byte) (f : ReqFields)
  | consumer (p : PortTag) (v : Byte)
  deriving DecidableEq, Repr

/-- The upstream port: requests whose response is still to be returned, in acceptance order;
responses returned, oldest first (the model's own log of what the port has driven); the next request
name; and the beats held back, in the order presented (R149). -/
structure Port where
  waiting : List Resp
  returned : List Resp
  nextId : Nat
  held : List UpItem
  deriving DecidableEq, Repr

/-- The six queues of the Memory Port Arbiter (R158). -/
inductive Queue where
  | pass | intake | compose | copy | desc | report
  deriving DecidableEq, Repr

/-- Who waits for a read from DRAM. -/
inductive ReadOwner where
  | pass (r : RespRef)
  | intake (r : RespRef)
  | compose (f : Fetch)
  | load (run : Nat)
  | copy (run : Nat)
  deriving DecidableEq, Repr

/-- A beat on its way to DRAM. -/
inductive MemOp where
  | read (owner : ReadOwner)
  | write (data : Beat) (en : Enables)
  deriving DecidableEq, Repr

/-- A queued beat: its place in the order of handing (R157), its beat address and what it does. -/
structure MemBeat where
  order : Nat
  addr : Nat
  op : MemOp
  deriving DecidableEq, Repr

/-- The Memory Port Arbiter (R158, R159): one queue per source, the source last granted, and the
count of beats handed so far (the model's own name for the order of handing). -/
structure Arbiter where
  queues : Vector (List MemBeat) 6
  last : Queue
  handed : Nat
  deriving DecidableEq, Repr

/-- The arbiter after power-on reset (R159). -/
def Arbiter.powerOn : Arbiter := ⟨Vector.replicate 6 [], .report, 0⟩

/-- A read sent to DRAM and not yet returned, with the bytes DRAM held when it was sent (R149:
DRAM answers reads and applies writes in the order the port sends them). -/
structure DramRead where
  owner : ReadOwner
  addr : Nat
  data : Beat
  deriving DecidableEq, Repr

/-- The part, the commands waiting for it, and the DRAM behind its memory port. -/
structure State where
  /-- Commands waiting, first in, first out. -/
  pending : List Instr
  /-- The Timebase (R162). -/
  timebase : Time
  /-- Address bits 16 to 39 of the strapped control area base (R162). -/
  strapBase : BitVec 24
  /-- The strapped reference frequency in MHz (R162). -/
  strapMhz : Nat
  /-- The six cameras. -/
  cams : Vector Camera 6
  /-- The four entrance lines. -/
  lines : Vector Line 4
  /-- The three screens. -/
  screens : Vector Screen 3
  /-- Composer fetches that wait for a place in the COMPOSE queue, in the order R115 gives. -/
  fetchWait : List Fetch
  /-- The next composition entry's name; the model's own. -/
  nextEntry : Nat
  /-- The Snapshot Engine. -/
  engine : Engine
  /-- The working part settings record. -/
  part : PartSettings
  /-- The Report Writer. -/
  ring : Ring
  /-- The attention summary. -/
  attention : Attention
  /-- The request and answer words. -/
  words : Words
  /-- Live page reads answered so far; the model's own counter, for the free values of absent
  fields. -/
  liveReads : Nat
  /-- The upstream port. -/
  port : Port
  /-- The Memory Port Arbiter. -/
  arb : Arbiter
  /-- DRAM: the bytes written since the model began, addresses strictly rising. -/
  dram : List Host.Cell
  /-- Reads DRAM has been sent and has not answered, oldest first. -/
  reads : List DramRead
  deriving DecidableEq, Repr

/-- An entrance line after power-on reset with its pin low: steady, inactive (R78). -/
def Line.powerOnLow : Line := ⟨LineSettings.default, false, false, false, none, 0, 0⟩

/-- The part right after a power-on reset with the straps of Config and every entrance and sync
input low (R27, R30, R70, R78, R101, R103, R147, R154, R159, R162, R163, R165, R169, R170, R171);
nothing has been written to DRAM. -/
def State.reset : State where
  pending := []
  timebase := 0
  strapBase := Config.strapBase
  strapMhz := Config.strapMhz
  cams := Vector.replicate 6 Camera.powerOn
  lines := Vector.replicate 4 Line.powerOnLow
  screens := Vector.replicate 3 (Screen.powerOn false)
  fetchWait := []
  nextEntry := 0
  engine := Engine.powerOn
  part := ⟨0, 0⟩
  ring := Ring.powerOn
  attention := Attention.clear
  words := Words.powerOn
  liveReads := 0
  port := ⟨[], [], 0, []⟩
  arb := Arbiter.powerOn
  dram := []
  reads := []

end Sys2Proof.Machine
end

