-- ==== Sys2Proof/Machine/Bytes.lean ====
section
/-!
DEFINITION. Byte order (R178): reading and placing little-endian fields, and the small arithmetic the
chapters share (rounding, clamping, saturating counters).
-/
namespace Sys2Proof.Machine

/-- Byte `i` of a number, byte 0 the least significant (R178). -/
def byteOf (x i : Nat) : Byte := BitVec.ofNat 8 (x >>> (8 * i))

/-- A field with its byte `i` replaced, byte 0 the least significant (R154, R178). -/
def putByte {n : Nat} (x : BitVec n) (i : Nat) (b : Byte) : BitVec n :=
  (x &&& ~~~((0xFF#8).setWidth n <<< (8 * i))) ||| (b.setWidth n <<< (8 * i))

/-- Byte `i` of a beat. -/
def beatByte (d : Beat) (i : Nat) : Byte := if h : i < 64 then d[i] else 0

/-- The little-endian number in `size` bytes of a beat from byte `off` on (R178). -/
def beatLe (d : Beat) (off : Nat) : Nat → Nat
  | 0 => 0
  | size + 1 => (beatByte d off).toNat + 256 * beatLe d (off + 1) size

/-- A field of a record the part writes: its offset in the beat, its size in bytes, its value. -/
abbrev Field := Nat × Nat × Nat

/-- The byte that the first field holding byte `i` gives it; `none` where no field does. -/
def fieldByte : List Field → Nat → Option Byte
  | [], _ => none
  | (off, size, v) :: rest, i =>
    if off ≤ i ∧ i < off + size then some (byteOf v (i - off)) else fieldByte rest i

/-- The beat that holds the given fields, its other bytes 0 (R178). -/
def beatOfFields (fs : List Field) : Beat := Vector.ofFn fun i => (fieldByte fs i.val).getD 0

/-- The beat with every byte 0. -/
def zeroBeat : Beat := Vector.replicate 64 0

/-- A flag as the part writes it: 1 for set, 0 for clear (R179). -/
def flagNat (b : Bool) : Nat := if b then 1 else 0

/-- The least multiple of `m` that is not smaller than `x` (00_scope, Division). -/
def roundUp (x m : Nat) : Nat := (x + m - 1) / m * m

/-- `x` clamped to the nearest end of the range from `lo` to `hi` (00_scope, Ranges). -/
def clamp (lo hi x : Nat) : Nat := if x < lo then lo else if hi < x then hi else x

/-- A 16-bit count raised by one, saturating at 65,535. -/
def satInc (x : BitVec 16) : BitVec 16 := if x = 0xFFFF then x else x + 1

/-- The size of the difference of two numbers. -/
def absDiff (a b : Nat) : Nat := if a ≤ b then b - a else a - b

/-- Whether bit `i` of a byte is set. -/
def byteBit (b : Byte) (i : Nat) : Bool := b.getLsbD i

/-- A word of 32 bits from its four bytes, byte 0 first (R174, 11.4). -/
def word32 (b0 b1 b2 b3 : Nat) : BitVec 32 :=
  BitVec.ofNat 32 (b0 % 256 + 256 * (b1 % 256) + 65536 * (b2 % 256) + 16777216 * (b3 % 256))

/-- A detail word from two bytes and a 16-bit value in bytes 2 and 3 (11.4). -/
def detail (b0 b1 hi : Nat) : BitVec 32 := word32 b0 b1 hi (hi / 256)

/-- The bytes of a macropixel, Y0 U Y1 V (00_scope). -/
def Macropixel.byte (m : Macropixel) : Nat → Byte
  | 0 => m.y0
  | 1 => m.u
  | 2 => m.y1
  | _ => m.v

/-- A macropixel with byte `i` replaced. -/
def Macropixel.setByte (m : Macropixel) (i : Nat) (b : Byte) : Macropixel :=
  match i with
  | 0 => { m with y0 := b }
  | 1 => { m with u := b }
  | 2 => { m with y1 := b }
  | _ => { m with v := b }

/-- The beat that 16 macropixels form, in order (R116); a missing one reads as the last given. -/
def beatOfMacropixels (fallback : Macropixel) (ms : List Macropixel) : Beat :=
  Vector.ofFn fun i => (ms.getD (i.val / 4) fallback).byte (i.val % 4)

/-- The macropixel at byte `i` of a beat (R116). -/
def beatMacropixel (d : Beat) (i : Nat) : Macropixel :=
  ⟨beatByte d i, beatByte d (i + 1), beatByte d (i + 2), beatByte d (i + 3)⟩

end Sys2Proof.Machine
end

