-- ==== Sys2Proof/Machine/Memory.lean ====
section
/-!
DEFINITION. DRAM behind the memory port (R149, R157): the bytes written so far, addresses strictly
rising. An address that is not listed has not been written; what DRAM holds there is the free value
`Config.powerOnByte` (log entry 2).
-/
namespace Sys2Proof.Machine

/-- DRAM as a list of written bytes. -/
abbrev Memory := List Host.Cell

/-- The canonical form: addresses strictly rising. An unlisted address reads as no value, so no entry
can equal what an unlisted address reads as. -/
abbrev Memory.wf (m : Memory) : Prop := m.Pairwise fun x y => x.1 < y.1

/-- The byte written last at an address, if any was. -/
def Memory.lookup : Memory → Nat → Option Byte
  | [], _ => none
  | (k, v) :: rest, a => if k = a then some v else Memory.lookup rest a

/-- DRAM after one byte has been written. -/
def Memory.write : Memory → Nat → Byte → Memory
  | [], a, b => [(a, b)]
  | (k, v) :: rest, a, b =>
    if a < k then (a, b) :: (k, v) :: rest
    else if a = k then (a, b) :: rest
    else (k, v) :: Memory.write rest a b

/-- The byte DRAM holds at an address. -/
def Memory.byte (m : Memory) (a : Nat) : Byte := (Memory.lookup m a).getD (Config.powerOnByte a)

/-- The 64 bytes DRAM holds from an address on. -/
def Memory.beat (m : Memory) (a : Nat) : Beat := Vector.ofFn fun i => Memory.byte m (a + i.val)

/-- DRAM after the enabled ones among the bytes `i` of the list have been written from `a` on. -/
def Memory.writeBytes (m : Memory) (a : Nat) (d : Beat) (en : Enables) : List Nat → Memory
  | [] => m
  | i :: rest =>
    Memory.writeBytes (if en.getLsbD i then Memory.write m (a + i) (beatByte d i) else m) a d en rest

/-- DRAM after a write beat under its byte enables (R149). -/
def Memory.writeBeat (m : Memory) (a : Nat) (d : Beat) (en : Enables) : Memory :=
  Memory.writeBytes m a d en (List.range 64)

end Sys2Proof.Machine
end

