-- ==== Sys2Proof/Machine/Operands.lean ====
section
/-!
DEFINITION. What the part works from when it reads a setting: the clamps of R1, R37, R45, R80, R84 and
R106, the effective geometries and the quantities that follow from them (R2, R29, R81), and the address
ranges and classes of R150 and R152.
-/
namespace Sys2Proof.Machine

/-! ### Camera settings in use (R1, R37, R45) -/

/-- Nominal period P. -/
def CamSettings.periodUsed (c : CamSettings) : Nat := clamp 1000 1000000 c.period.toNat

/-- Stale time = P × stale factor / 4. -/
def CamSettings.staleTime (c : CamSettings) : Nat := c.periodUsed * clamp 5 16 c.staleFactor.toNat / 4

/-- Lost time = P × 2^(lost exponent). -/
def CamSettings.lostTime (c : CamSettings) : Nat := c.periodUsed * 2 ^ clamp 1 10 c.lostExponent.toNat

/-- Gap limit = gap time × 2^(gap relax). -/
def CamSettings.gapLimit (c : CamSettings) : Nat :=
  clamp 50 65535 c.gapTime.toNat * 2 ^ clamp 0 3 c.gapRelax.toNat

/-- Evaluate interval E. -/
def CamSettings.interval (c : CamSettings) : Nat := clamp 1 16 c.evalInterval.toNat

/-- Learn count. -/
def CamSettings.learnCountUsed (c : CamSettings) : Nat := clamp 8 255 c.learnCount.toNat

/-- Learn shift. -/
def CamSettings.learnShiftUsed (c : CamSettings) : Nat := clamp 1 8 c.learnShift.toNat

/-- Watch shift. -/
def CamSettings.watchShiftUsed (c : CamSettings) : Nat := clamp 1 8 c.watchShift.toNat

/-- Minimum texture. -/
def CamSettings.minTextureUsed (c : CamSettings) : Nat := clamp 0 65280 c.minTexture.toNat

/-- Dirt ratio. -/
def CamSettings.dirtRatioUsed (c : CamSettings) : Nat := clamp 1 15 c.dirtRatio.toNat

/-- Pattern correction on. -/
def CamSettings.patternOn (c : CamSettings) : Bool := byteBit c.pattern 0

/-- Confirm count. -/
def CamSettings.confirmUsed (c : CamSettings) : Nat := clamp 1 255 c.confirmCount.toNat

/-- Warn tiles. -/
def CamSettings.warnUsed (c : CamSettings) : Nat := clamp 1 48 c.warnTiles.toNat

/-- Clear tiles: clamped, then below the warn tiles in use. -/
def CamSettings.clearUsed (c : CamSettings) : Nat :=
  let x := clamp 0 48 c.clearTiles.toNat
  if x < c.warnUsed then x else c.warnUsed - 1

/-- Recovery KEEP (set) or RELEARN (clear). -/
def CamSettings.keep (c : CamSettings) : Bool := byteBit c.recovery 0

/-! ### Camera geometry (R2, R29) -/

/-- Beats per line. -/
def CamGeom.beatsPerLine (g : CamGeom) : Nat := g.w / 32

/-- Frame beats. -/
def CamGeom.frameBeats (g : CamGeom) : Nat := g.h * g.w / 32

/-- Frame bytes. -/
def CamGeom.frameBytes (g : CamGeom) : Nat := g.w * g.h * 2

/-- Slot stride, and intake window size. -/
def CamGeom.stride (g : CamGeom) : Nat := roundUp g.frameBytes 4096

/-- Slot area size. -/
def CamGeom.slotArea (g : CamGeom) : Nat := g.k * g.stride

/-- The address of slot `j`. -/
def CamGeom.slotAddr (g : CamGeom) (j : Nat) : Nat := g.slotBase + j * g.stride

/-- Tile width. -/
def CamGeom.tileW (g : CamGeom) : Nat := g.w / 8

/-- Tile height. -/
def CamGeom.tileH (g : CamGeom) : Nat := g.h / 6

/-- An address field of the config page as a 4 KiB aligned 40-bit address: bits 40 to 63 ignored
(R178), the low 12 bits taken as zero (R1, R80). -/
def alignedBase (x : BitVec 64) : Nat := x.toNat % 2 ^ 40 / 4096 * 4096

/-- The geometry the working settings describe, W and H as written (R2, R23). -/
def CamSettings.geom (c : CamSettings) : CamGeom where
  intakeBase := alignedBase c.intakeBase
  slotBase := alignedBase c.slotBase
  w := c.w.toNat
  h := c.h.toNat
  k := clamp 2 6 c.k.toNat

/-- W and H pass the GEOMETRY check of R23. -/
def CamGeom.valid (g : CamGeom) : Bool :=
  64 ≤ g.w && g.w ≤ 1920 && g.w % 32 == 0 && 48 ≤ g.h && g.h ≤ 1080 && g.h % 6 == 0

/-- The effective geometry a RESTART takes (R28). -/
def CamSettings.restartGeom (c : CamSettings) : CamGeom :=
  if c.geom.valid then c.geom else { c.geom with w := 0, h := 0 }

/-- Early lines in use, clamped to H of the effective geometry (R1, R93). -/
def Camera.earlyLines (c : Camera) : Nat := clamp 0 c.geom.h c.cfg.earlyLines.toNat

/-! ### Screen settings in use (R80, R81, R84) -/

/-- Latch mode; a code naming none of the three is READ_START. -/
def ScrSettings.mode (c : ScrSettings) : LatchMode :=
  if c.latchMode = 1 then .sync else if c.latchMode = 2 then .cycle else .readStart

/-- The selected edge is FALLING. -/
def ScrSettings.falling (c : ScrSettings) : Bool := byteBit c.syncEdge 0

/-- Cycle period. -/
def ScrSettings.periodUsed (c : ScrSettings) : Nat := clamp 1000 1000000 c.cyclePeriod.toNat

/-- Border width: clamped, then rounded down to even. -/
def ScrSettings.borderUsed (c : ScrSettings) : Nat := clamp 2 16 c.border.toNat / 2 * 2

/-- The geometry the working settings describe (R81). -/
def ScrSettings.geom (c : ScrSettings) : ScrGeom := ⟨alignedBase c.base, c.ws.toNat, c.hs.toNat, c.mode⟩

/-- Bytes per screen line. -/
def ScrGeom.lineBytes (g : ScrGeom) : Nat := 2 * g.ws

/-- Screen bytes. -/
def ScrGeom.bytes (g : ScrGeom) : Nat := g.ws * g.hs * 2

/-- Screen window size. -/
def ScrGeom.window (g : ScrGeom) : Nat := roundUp g.bytes 4096

/-- The line of the read beat at a window offset. -/
def ScrGeom.lineOf (g : ScrGeom) (o : Nat) : Nat := o / g.lineBytes

/-- Ws and Hs pass the GEOMETRY check of R98. -/
def ScrGeom.valid (g : ScrGeom) : Bool :=
  64 ≤ g.ws && g.ws ≤ 1920 && g.ws % 32 == 0 && 16 ≤ g.hs && g.hs ≤ 1200

/-- The effective geometry a RESTART takes (R102). -/
def ScrSettings.restartGeom (c : ScrSettings) : ScrGeom :=
  if c.geom.valid then c.geom else { c.geom with ws := 0, hs := 0 }

/-- Pane count in use (R84). -/
def Layout.used (l : Layout) : Nat := if l.count.toNat ≤ 8 then l.count.toNat else 8

/-- The entries in use, in order (R84). -/
def Layout.entries (l : Layout) : List Pane := l.panes.toList.take l.used

/-- An entrance layout is present (R84). -/
def Layout.present (l : Layout) : Bool := 1 ≤ l.used

/-- The camera a pane entry names, 0 to 5; codes 6 and 7 name none (R106). -/
def Pane.camId (p : Pane) : Option CamId :=
  let n := p.camera.toNat % 8
  if h : n < 6 then some ⟨n, h⟩ else none

/-- A pane coordinate rounded down to even (R106). -/
def Pane.even (x : BitVec 16) : Nat := x.toNat / 2 * 2

/-- Destination x as used. -/
def Pane.px (p : Pane) : Nat := Pane.even p.x

/-- Destination y as used. -/
def Pane.py (p : Pane) : Nat := p.y.toNat

/-- Width as used. -/
def Pane.pw (p : Pane) : Nat := Pane.even p.width

/-- Height as used. -/
def Pane.ph (p : Pane) : Nat := p.height.toNat

/-- Source x as used. -/
def Pane.sx (p : Pane) : Nat := Pane.even p.srcX

/-- Source y as used. -/
def Pane.sy (p : Pane) : Nat := p.srcY.toNat

/-- A decimation field as used: 0 as 1, 5 to 7 as 4 (R106). -/
def Pane.decimation (b : Byte) : Nat := clamp 1 4 (b.toNat % 8)

/-- The mirror flag. -/
def Pane.mirror (p : Pane) : Bool := byteBit p.flags 0

/-- The warn overlay flag. -/
def Pane.warns (p : Pane) : Bool := byteBit p.flags 1

/-- The camera of a drawn pane: an entry that names a camera and is not empty (R84, R106). -/
def Pane.drawn (p : Pane) : Option CamId := if 2 ≤ p.pw ∧ 1 ≤ p.ph then p.camId else none

/-- The layout uses camera `c` (R84). -/
def Layout.uses (l : Layout) (c : CamId) : Bool := l.entries.any fun p => p.drawn == some c

/-! ### Entrance line settings (R71, R72) -/

/-- Polarity ACTIVE_LOW. -/
def LineSettings.activeLow (c : LineSettings) : Bool := byteBit c.polarity 0

/-- The raw level a pin level gives under the polarity in use (R72). -/
def LineSettings.rawOf (c : LineSettings) (pin : Bool) : Bool := pin != c.activeLow

/-! ### Access to the replicated blocks -/

/-- Camera `c`. -/
def State.cam (s : State) (c : CamId) : Camera := s.cams[c]

/-- The state with camera `c` replaced. -/
def State.setCam (s : State) (c : CamId) (x : Camera) : State := { s with cams := s.cams.set c x }

/-- Screen `sc`. -/
def State.screen (s : State) (sc : ScrId) : Screen := s.screens[sc]

/-- The state with screen `sc` replaced. -/
def State.setScreen (s : State) (sc : ScrId) (x : Screen) : State :=
  { s with screens := s.screens.set sc x }

/-- Entrance line `l`. -/
def State.line (s : State) (l : LineId) : Line := s.lines[l]

/-- The state with line `l` replaced. -/
def State.setLine (s : State) (l : LineId) (x : Line) : State := { s with lines := s.lines.set l x }

/-- The state with the engine replaced. -/
def State.setEngine (s : State) (e : Engine) : State := { s with engine := e }

/-- The cameras in ascending order. -/
def allCams : List CamId := [0, 1, 2, 3, 4, 5]

/-- The screens in ascending order. -/
def allScreens : List ScrId := [0, 1, 2]

/-- The lines in ascending order. -/
def allLines : List LineId := [0, 1, 2, 3]

/-- The descriptors in ascending order. -/
def allDescs : List DescId := [0, 1, 2, 3, 4, 5, 6, 7, 8, 9, 10, 11, 12, 13, 14, 15]

/-- The camera is armed (R3). -/
def Camera.armed (c : Camera) : Bool := c.chan != .disarmed

/-- Any slot of the camera carries a hold tag (R23, R152). -/
def Camera.anyHeld (c : Camera) : Bool := c.slots.any fun x => x.holders != 0

/-- The screen is in WAIT_LATCH or RUNNING (R82). -/
def Screen.enabled (x : Screen) : Bool := x.state != .disabled

/-- The control area base (R162). -/
def State.controlBase (s : State) : Nat := s.strapBase.toNat * 65536

/-- The reference frequency in use (R162). -/
def State.refMhz (s : State) : Nat := clamp 10 200 s.strapMhz

/-! ### Address ranges (R152) -/

/-- A range of addresses: its first address and its size in bytes. -/
structure Range where
  base : Nat
  size : Nat
  deriving DecidableEq, Repr

/-- An address lies in a range. -/
def Range.has (r : Range) (a : Nat) : Bool := r.base ≤ a && a < r.base + r.size

/-- Two ranges share a byte. -/
def Range.meets (r q : Range) : Bool :=
  0 < r.size && 0 < q.size && r.base < q.base + q.size && q.base < r.base + r.size

/-- A range ends above the highest address, 2^40 − 1. -/
def Range.tooHigh (r : Range) : Bool := 2 ^ 40 < r.base + r.size

/-- The intake window of a geometry. -/
def CamGeom.intakeRange (g : CamGeom) : Range := ⟨g.intakeBase, g.stride⟩

/-- The slot area of a geometry. -/
def CamGeom.slotRange (g : CamGeom) : Range := ⟨g.slotBase, g.slotArea⟩

/-- The screen window of a geometry. -/
def ScrGeom.range (g : ScrGeom) : Range := ⟨g.base, g.window⟩

/-- The control area. -/
def State.controlRange (s : State) : Range := ⟨s.controlBase, 65536⟩

/-- The ranges of camera `c` that are in use: its window and slot area while armed, its slot area alone
while it is DISARMED with a slot held (R152, R133). -/
def State.camRanges (s : State) (c : CamId) : List Range :=
  let x := s.cam c
  if x.armed then [x.geom.intakeRange, x.geom.slotRange]
  else if x.anyHeld then [x.geom.slotRange] else []

/-- The window of screen `sc` while it is enabled (R152). -/
def State.scrRanges (s : State) (sc : ScrId) : List Range :=
  let x := s.screen sc
  if x.enabled then [x.geom.range] else []

/-- ARM of camera `c` with geometry `g` is refused OVERLAP (R152). -/
def State.armOverlaps (s : State) (c : CamId) (g : CamGeom) : Bool :=
  let mine := [g.intakeRange, g.slotRange]
  let others := (allCams.filter (· ≠ c)).flatMap s.camRanges ++ allScreens.flatMap s.scrRanges
    ++ [s.controlRange]
  g.intakeRange.meets g.slotRange || mine.any fun r => r.tooHigh || others.any r.meets

/-- The ranges that refuse an ENABLE (R152): other enabled screens, armed cameras, the control area. -/
def State.enableOverlaps (s : State) (sc : ScrId) (g : ScrGeom) : Bool :=
  let cams := (allCams.filter fun c => (s.cam c).armed).flatMap s.camRanges
  let others := (allScreens.filter (· ≠ sc)).flatMap s.scrRanges ++ cams ++ [s.controlRange]
  g.range.tooHigh || others.any g.range.meets

/-- The destination check of R133. -/
def State.destBad (s : State) (r : Range) : Bool :=
  r.tooHigh
    || (allCams.flatMap s.camRanges ++ allScreens.flatMap s.scrRanges ++ [s.controlRange]).any r.meets

/-! ### Classification (R150) -/

/-- The classes of R150. -/
inductive Class where
  | config | descriptor | live | ring | plain
  | intake (c : CamId)
  | screen (sc : ScrId)
  | intakeOff (c : CamId)
  | screenOff (sc : ScrId)
  deriving DecidableEq, Repr

/-- The class of an address outside the control area: rows 6 to 10 of R150, the lowest-numbered camera
or screen first. -/
def State.windowClass (s : State) (a : Nat) : Class :=
  match allCams.find? fun c => (s.cam c).armed && (s.cam c).geom.intakeRange.has a with
  | some c => .intake c
  | none =>
    match allScreens.find? fun x => (s.screen x).enabled && (s.screen x).geom.range.has a with
    | some x => .screen x
    | none =>
      match allCams.find? fun c => !(s.cam c).armed && (s.cam c).geom.intakeRange.has a with
      | some c => .intakeOff c
      | none =>
        match allScreens.find? fun x => !(s.screen x).enabled && (s.screen x).geom.range.has a with
        | some x => .screenOff x
        | none => .plain

/-- The class of a beat's address: rows 1 to 5 of R150 for the control area, the other rows else. -/
def State.classify (s : State) (a : Nat) : Class :=
  if s.controlRange.has a then
    let o := a - s.controlBase
    if o < 0x4000 then .config
    else if o < 0x4400 then .descriptor
    else if 0x8000 ≤ o ∧ o < 0x9000 then .live
    else if 0xC000 ≤ o ∧ o < 0xC400 then .ring
    else .plain
  else s.windowClass a

/-- The beat address of an upstream address (R149): the 64-byte beat it lies in. -/
def beatBase (a : Addr) : Nat := a.toNat / 64 * 64

/-! ### The Timebase (R162) -/

/-- A Timebase value reached a time after another, modulo 2^32. -/
def timeAfter (t : Time) (us : Nat) : Time := t + BitVec.ofNat 32 us

/-- A timer runs out now: it is set to the value the Timebase has reached (R162). -/
def timerDue (now : Time) (t : Option Time) : Bool := t == some now

/-- The timers of the part (R4, R14, R71, R83). -/
inductive Timer where
  | stale (c : CamId)
  | lost (c : CamId)
  | gap (c : CamId)
  | filter (l : LineId)
  | offset (sc : ScrId)
  | cycle (sc : ScrId)
  deriving DecidableEq, Repr

/-- A timer: idle, or the Timebase value at which it runs out. -/
def State.timer (s : State) : Timer → Option Time
  | .stale c => (s.cam c).staleTimer
  | .lost c => (s.cam c).lostTimer
  | .gap c => (s.cam c).gapTimer
  | .filter l => (s.line l).filterTimer
  | .offset sc => (s.screen sc).offsetTimer
  | .cycle sc => (s.screen sc).cycleTimer

end Sys2Proof.Machine
end

