-- ==== Sys2Proof/Machine/Flags.lean ====
section
/-!
DEFINITION. The signals the part drives from its state: the sideband flags of a read response beat
(R160) and the interrupt output (R176).
-/
namespace Sys2Proof.Machine

/-- The verdict of some camera is DIRTY (R160). -/
def State.dirtyAny (s : State) : Bool := allCams.any fun c => (s.cam c).eval.verdict == .dirty

/-- Some camera is STALE or LOST; such a camera is not DISARMED (R3, R160). -/
def State.viewLoss (s : State) : Bool :=
  allCams.any fun c => (s.cam c).chan == .stale || (s.cam c).chan == .lost

/-- The ring indices differ (R160). -/
def State.reportsFlag (s : State) : Bool := s.ring.producer != s.ring.consumer

/-- The engine state is neither IDLE nor DISABLED (R160). -/
def State.snapBusy (s : State) : Bool :=
  s.engine.state != .idle && s.engine.state != .disabled

/-- The four sideband flags as the state stands (R160). -/
def State.sideFlags (s : State) : SideFlags :=
  ⟨s.dirtyAny, s.viewLoss, s.reportsFlag, s.snapBusy⟩

/-- The interrupt output: a level, asserted while the interrupt enable copy is set and the indices
differ (R176). -/
def State.interrupt (s : State) : Bool := s.ring.intEnable && s.reportsFlag

end Sys2Proof.Machine
end

