-- ==== Sys2Proof/Machine/Ops.lean ====
section
/-!
DEFINITION. The operations every chapter shares: handing beats to the Memory Port Arbiter (R158),
forming upstream responses (R149, R156, R161), making reports (R172, R173), and placing answers
(R165).
-/
namespace Sys2Proof.Machine

/-! ### The queues of the Memory Port Arbiter (R158) -/

/-- A queue's place in the circular order of R159. -/
def Queue.idx : Queue → Fin 6
  | .pass => 0
  | .intake => 1
  | .compose => 2
  | .copy => 3
  | .desc => 4
  | .report => 5

/-- The beats of a queue, in the order they were handed. -/
def State.queue (s : State) (q : Queue) : List MemBeat := s.arb.queues[q.idx]

/-- The queue has a free place (R158). -/
def State.room (s : State) (q : Queue) : Bool := (s.queue q).length < 16

/-- A beat handed to a queue (R157, R158). -/
def State.hand (s : State) (q : Queue) (addr : Nat) (op : MemOp) : State :=
  { s with arb :=
    { s.arb with
      queues := s.arb.queues.set q.idx (s.queue q ++ [⟨s.arb.handed, addr, op⟩])
      handed := s.arb.handed + 1 } }

/-! ### Upstream responses (R149, R156, R161) -/

/-- The request is the one a beat of this stream and direction belongs to: still open (log entry 19). -/
def Resp.takes (r : Resp) (p : PortTag) (isWrite : Bool) : Bool :=
  r.stream == p.stream && r.isWrite == isWrite && !r.closed

/-- The response can be returned once its turn comes: its last beat has been accepted and every beat
formed (R156). -/
def Resp.complete (r : Resp) : Bool := r.closed && r.beats.all Option.isSome

/-- The waiting requests that stay, and those whose response is returned now, given the streams that an
earlier request still holds up (R156). -/
def splitReturns : List Resp → List (Fin 16) → List Resp × List Resp
  | [], _ => ([], [])
  | r :: rs, blocked =>
    if r.complete && !blocked.contains r.stream then
      let (kept, out) := splitReturns rs blocked
      (kept, r :: out)
    else
      let (kept, out) := splitReturns rs (r.stream :: blocked)
      (r :: kept, out)

/-- The responses whose turn has come are returned, each stream in its own order (R156). -/
def Port.flush (p : Port) : Port :=
  let (kept, out) := splitReturns p.waiting []
  { p with waiting := kept, returned := p.returned ++ out }

/-- A beat accepted into its request: the open one of its stream and direction, or a new one. A read
beat brings the place of its response beat, formed or not. -/
def Port.accept (p : Port) (t : PortTag) (isWrite : Bool) (b : List (Option RespBeat)) : Port :=
  if p.waiting.any (·.takes t isWrite) then
    { p with waiting := p.waiting.map fun r =>
        if r.takes t isWrite then { r with beats := r.beats ++ b, closed := t.last } else r }
  else
    { p with
      waiting := p.waiting ++ [⟨p.nextId, t.stream, isWrite, b, t.last⟩]
      nextId := p.nextId + 1 }

/-- The place that the next read beat with this tag takes. -/
def Port.place (p : Port) (t : PortTag) : RespRef :=
  match p.waiting.find? (·.takes t false) with
  | some r => ⟨r.id, r.beats.length⟩
  | none => ⟨p.nextId, 0⟩

/-- A response beat formed at its place. -/
def Port.form (p : Port) (r : RespRef) (b : RespBeat) : Port :=
  { p with waiting := p.waiting.map fun q =>
      if q.id = r.req then { q with beats := q.beats.set r.beat (some b) } else q }

/-- A write beat handed on or absorbed: its request's completion is formed with its last beat, and
does not wait for DRAM (R149). -/
def State.writeDone (s : State) (t : PortTag) : State :=
  { s with port := (s.port.accept t true []).flush }

/-- A read beat answered at its acceptance, with the flags as they stand (R161). -/
def State.answerRead (s : State) (t : PortTag) (d : Beat) : State :=
  { s with port := (s.port.accept t false [some ⟨d, s.sideFlags⟩]).flush }

/-- A read beat accepted whose response beat is formed later. -/
def State.expectRead (s : State) (t : PortTag) : State :=
  { s with port := s.port.accept t false [none] }

/-- A response beat formed with the flags given. -/
def State.formReadWith (s : State) (r : RespRef) (d : Beat) (f : SideFlags) : State :=
  { s with port := (s.port.form r ⟨d, f⟩).flush }

/-- A response beat formed, with the flags as they stand (R161). -/
def State.formRead (s : State) (r : RespRef) (d : Beat) : State := s.formReadWith r d s.sideFlags

/-! ### Codes (11.6) -/

/-- The code of a report kind. -/
def Kind.code : Kind → Nat
  | .camLive => 0
  | .camStale => 1
  | .camLost => 2
  | .frameTruncated => 3
  | .dropBegin => 4
  | .learnDone => 5
  | .verdict => 6
  | .layoutChanged => 7
  | .windowMisuse => 8
  | .configIgnored => 9
  | .snapDone => 10
  | .snapEnded => 11

/-- The code of a channel state. -/
def Channel.code : Channel → Nat
  | .disarmed => 0
  | .waiting => 1
  | .live => 2
  | .stale => 3
  | .lost => 4

/-- The code of a verdict. -/
def Verdict.code : Verdict → Nat
  | .clean => 0
  | .suspect => 1
  | .dirty => 2

/-- The code of a layout choice. -/
def LayoutChoice.code : LayoutChoice → Nat
  | .normal => 0
  | .entrance l => l.val + 1

/-- The code of a layout choice that may be absent. -/
def choiceCode : Option LayoutChoice → Nat
  | none => 0xFF
  | some c => c.code

/-- The code of a last result or SNAP_ENDED cause. -/
def SnapResult.code : SnapResult → Nat
  | .copied => 1
  | .spent => 2
  | .badDest => 3
  | .noFrame => 4
  | .stale => 5
  | .aborted => 6
  | .linkDisabled => 7

/-- The code of a result. -/
def Result.code : Result → Nat
  | .done => 0
  | .inProgress => 1
  | .busy => 2
  | .refusedState => 3
  | .geometry => 4
  | .overlap => 5
  | .disabled => 6
  | .unknownCode => 7

/-! ### Reports (R170 to R173) -/

/-- The attention summary with the group of a kind set (R170). -/
def Attention.set (a : Attention) : Kind → Attention
  | .camLive | .camStale | .camLost | .frameTruncated | .dropBegin => { a with camera := true }
  | .learnDone | .verdict => { a with eval := true }
  | .layoutChanged | .windowMisuse => { a with screen := true }
  | .snapDone | .snapEnded => { a with snap := true }
  | .configIgnored => { a with config := true }

/-- The unconsumed count (R171). -/
def Ring.unconsumed (r : Ring) : Nat := (r.producer - r.consumer).toNat

/-- The occupancy (R171). -/
def Ring.occupancy (r : Ring) : Nat := r.unconsumed + r.staging.length

/-- A report taken by the ring: sequence, full rule, record (R172, steps 3 to 5). -/
def Ring.take (r : Ring) (k : Kind) (src : Nat) (now : Time) (d0 d1 : BitVec 32) : Ring :=
  if 63 ≤ r.occupancy then
    { r with seq := r.seq + 1, overflow := true, lost := satInc r.lost }
  else
    { r with
      seq := r.seq + 1
      staging := r.staging ++ [⟨k, BitVec.ofNat 8 src, r.seq, now, d0, d1⟩] }

/-- The 16 bytes of a record, at ring position `p` in its beat (11.4, R173). -/
def Record.beat (r : Record) (p : BitVec 6) : Beat :=
  let o := p.toNat % 4 * 16
  beatOfFields [(o, 1, r.kind.code), (o + 1, 1, r.source.toNat), (o + 2, 1, r.seq.toNat),
    (o + 4, 4, r.time.toNat), (o + 8, 4, r.detail0.toNat), (o + 12, 4, r.detail1.toNat)]

/-- The byte enables of the record at ring position `p` (R173, R179). -/
def recordEnables (p : BitVec 6) : Enables := (0xFFFF : Enables) <<< (p.toNat % 4 * 16)

/-- The address of the beat of ring position `p` (R173). -/
def State.ringAddr (s : State) (p : BitVec 6) : Nat := s.controlBase + 0xC000 + p.toNat / 4 * 64

/-- A record handed to the REPORT queue; the producer index advances (R173). -/
def State.handRecord (s : State) (r : Record) : State :=
  let p := s.ring.producer
  let s := s.hand .report (s.ringAddr p) (.write (r.beat p) (recordEnables p))
  { s with ring := { s.ring with producer := p + 1 } }

/-- Staged records handed, oldest first, while the REPORT queue has places; the rest stay staged, and
the list given is what is staged (R173). -/
def State.handStaged (s : State) : List Record → State
  | [] => { s with ring := { s.ring with staging := [] } }
  | r :: rest =>
    if s.room .report then (s.handRecord r).handStaged rest
    else { s with ring := { s.ring with staging := r :: rest } }

/-- The kind is masked in the working settings (R171). -/
def State.masked (s : State) (k : Kind) : Bool := s.part.masks.getLsbD k.code

/-- A report (R172): attention, mask, sequence, full rule, record; and the handing of the records the
REPORT queue has room for (R173). -/
def State.report (s : State) (k : Kind) (src : Nat) (d0 d1 : BitVec 32) : State :=
  let s := { s with attention := s.attention.set k }
  if s.masked k then s
  else
    let s := { s with ring := s.ring.take k src s.timebase d0 d1 }
    s.handStaged s.ring.staging

/-! ### Answers (R163, R165) -/

/-- A request word's fields after a request write (R163). -/
def Mailbox.take (m : Mailbox) (code : Byte) (f : ReqFields) : Mailbox :=
  { m with code := code, tag := f.tag.getD m.tag, index := f.index.getD m.index }

/-- Answered at once: open and the open tag are untouched (R165). -/
def Mailbox.answer (m : Mailbox) (r : Result) : Mailbox := { m with ansTag := m.tag, result := r }

/-- Answered IN_PROGRESS: open takes the request's tag (R165). -/
def Mailbox.opened (m : Mailbox) : Mailbox :=
  { m with ansTag := m.tag, result := .inProgress, openTag := some m.tag }

/-- The request in progress ends with its final result (R165). -/
def Mailbox.ended (m : Mailbox) (r : Result) : Mailbox :=
  match m.openTag with
  | some t => { m with ansTag := t, result := r, openTag := none }
  | none => m

/-- The request and answer words of an owner. -/
def State.mailbox (s : State) : Owner → Mailbox
  | .part => s.words.part
  | .camera c => s.words.cams[c]
  | .screen x => s.words.screens[x]
  | .engine => s.words.engine

/-- The state with an owner's words replaced. -/
def State.setMailbox (s : State) (o : Owner) (m : Mailbox) : State :=
  match o with
  | .part => { s with words := { s.words with part := m } }
  | .camera c => { s with words := { s.words with cams := s.words.cams.set c m } }
  | .screen x => { s with words := { s.words with screens := s.words.screens.set x m } }
  | .engine => { s with words := { s.words with engine := m } }

/-- The owner's request answered at once (R165). -/
def State.answer (s : State) (o : Owner) (r : Result) : State :=
  s.setMailbox o ((s.mailbox o).answer r)

/-- The owner's request answered IN_PROGRESS (R165). -/
def State.answerOpen (s : State) (o : Owner) : State := s.setMailbox o (s.mailbox o).opened

/-- The owner's open request ended (R165). -/
def State.answerEnd (s : State) (o : Owner) (r : Result) : State :=
  s.setMailbox o ((s.mailbox o).ended r)

/-- A RESTART waits for the engine's write-back (R166). -/
def State.restartOpen (s : State) : Bool := s.words.part.openTag.isSome

end Sys2Proof.Machine
end

