-- ==== Sys2Proof/Machine/Slots.lean ====
section
/-!
DEFINITION. Slots, hold tags and the ready list (R10, R17, R18, R19).
-/
namespace Sys2Proof.Machine

/-- The number of a screen's hold tag: `s * 4 + r * 2 + f` (R18, 11.5). -/
def screenTag (sc : ScrId) (role : SetRole) (fallback : Bool) : Nat :=
  sc.val * 4 + (if role = .retiring then 2 else 0) + (if fallback then 1 else 0)

/-- The number of the SNAP tag (11.5). -/
def snapTag : Nat := 12

/-- A tag's flag in a holder set. -/
def tagBit (t : Nat) : BitVec 13 := 1#13 <<< t

/-- A slot with a tag added to its holder set; a tag already present is left (R18). -/
def Slot.addTag (x : Slot) (t : Nat) : Slot := { x with holders := x.holders ||| tagBit t }

/-- A TORN slot that nobody holds is FREE (R17, R18). -/
def Slot.settle (x : Slot) : Slot :=
  match x.content with
  | .torn _ _ => if x.holders = 0 then { x with content := .free } else x
  | _ => x

/-- A slot with a tag removed: a TORN slot whose set becomes empty is FREE (R18). -/
def Slot.removeTag (x : Slot) (t : Nat) : Slot :=
  Slot.settle { x with holders := x.holders &&& ~~~(tagBit t) }

/-- A slot with one tag replaced by another, where it carries it (R90, step 3). -/
def Slot.swapTag (x : Slot) (t u : Nat) : Slot :=
  if x.holders &&& tagBit t = 0 then x
  else { x with holders := (x.holders &&& ~~~(tagBit t)) ||| tagBit u }

/-- The slot is FREE with an empty holder set (R10). -/
def Slot.takable (x : Slot) : Bool := x.content == .free && x.holders == 0

/-- The lines done of a slot while FILLING or TORN (R17). -/
def Slot.lines (x : Slot) : Option Nat :=
  match x.content with
  | .filling _ n => some n
  | .torn _ n => some n
  | _ => none

/-- The frame sequence of a slot, present unless it is FREE (R17). -/
def Slot.seq (x : Slot) : Option (BitVec 32) :=
  match x.content with
  | .free => none
  | .filling q _ => some q
  | .ready q _ => some q
  | .torn q _ => some q

/-- The slot is READY. -/
def Slot.isReady (x : Slot) : Bool :=
  match x.content with
  | .ready _ _ => true
  | _ => false

/-- Slot `j` of a camera. -/
def Camera.slot (c : Camera) (j : Nat) : Slot := c.slots.getD j Slot.empty

/-- A camera with slot `j` changed. -/
def Camera.modSlot (c : Camera) (j : Nat) (f : Slot → Slot) : Camera :=
  { c with slots := c.slots.modify j f }

/-- A hold tag added to slot `j` of camera `c` (R18). -/
def State.addTag (s : State) (c : CamId) (j t : Nat) : State :=
  s.setCam c ((s.cam c).modSlot j (·.addTag t))

/-- A hold tag removed from slot `j` of camera `c` (R18). -/
def State.removeTag (s : State) (c : CamId) (j t : Nat) : State :=
  s.setCam c ((s.cam c).modSlot j (·.removeTag t))

/-- A hold tag of slot `j` of camera `c` replaced by another (R90). -/
def State.swapTag (s : State) (c : CamId) (j t u : Nat) : State :=
  s.setCam c ((s.cam c).modSlot j (·.swapTag t u))

/-- The newest READY slot: the tail of the ready list (R19). -/
def Camera.newest (c : Camera) : Option Nat := c.ready.getLast?

/-- The slot R10 chooses for a new frame: the lowest FREE unheld slot, else the oldest unheld slot of
the ready list, else none. -/
def Camera.chooseSlot (c : Camera) : Option Nat :=
  match (List.range c.slots.length).find? fun j => (c.slot j).takable with
  | some j => some j
  | none => c.ready.find? fun j => (c.slot j).holders == 0

end Sys2Proof.Machine
end

