-- ==== Sys2Proof/Machine/Compose.lean ====
section
/-!
DEFINITION. The Pane Composer: where a beat lies (R105), the decision for each macropixel (R107 to
R112), its slot and address (R113, R114), the fetches of a plan (R115) and the forming of responses
(R116).
-/
namespace Sys2Proof.Machine

/-! ### One macropixel (R107 to R114) -/

/-- The pane's unclipped rectangle holds pixel `x` of line `y` (R107). -/
def Pane.holds (p : Pane) (x y : Nat) : Bool :=
  p.px ≤ x && x < p.px + p.pw && p.py ≤ y && y < p.py + p.ph

/-- The drawn pane that covers a pixel of the screen, the highest entry index first, with its camera
(R107). -/
def Layout.cover (l : Layout) (x y : Nat) : Option (Pane × CamId) :=
  l.entries.reverse.findSome? fun p => if p.holds x y then p.drawn.map fun c => (p, c) else none

/-- A macropixel at distances `dx`, `dy` lies in the border band of width `w` (R110). -/
def Pane.inBand (p : Pane) (w dx dy : Nat) : Bool :=
  dx < w || p.pw - 2 - dx < w || dy < w || p.ph - 1 - dy < w

/-- The source column and line of a picture macropixel, clamped to the frame (R111, R112). -/
def Pane.sourceOf (p : Pane) (g : CamGeom) (dx dy : Nat) : Nat × Nat :=
  let across := if p.mirror then p.pw - 2 - dx else dx
  (min (p.sx + across * Pane.decimation p.hdec) (g.w - 2),
    min (p.sy + dy * Pane.decimation p.vdec) (g.h - 1))

/-- The source macropixel of slot `j` at column `sx` and line `sy` (R113). -/
def Camera.sourceAt (x : Camera) (c : CamId) (j sx sy : Nat) (swap : Bool) : PlanItem :=
  .source ⟨c, j, x.geom.slotAddr j + (sy * x.geom.w + sx) * 2, swap⟩ none

/-- The slot a picture macropixel comes from: the primary where it holds the line, else the fallback,
else the background colour (R114). -/
def Camera.picture (x : Camera) (c : CamId) (e : CamEntry) (background : Macropixel) (sx sy : Nat)
    (swap : Bool) : PlanItem :=
  match e.primary with
  | none => .colour background
  | some j =>
    match (x.slot j).lines with
    | none => x.sourceAt c j sx sy swap
    | some n =>
      if sy < n then x.sourceAt c j sx sy swap
      else
        match e.fallback with
        | some f => x.sourceAt c f sx sy swap
        | none => .colour background

/-- The plan item of the macropixel at pixel `x` of line `y` under a hold set: the first case of R108
that applies. -/
def State.planItem (s : State) (hs : HoldSet) (x y : Nat) : PlanItem :=
  match hs.layout.cover x y with
  | none => .colour hs.background
  | some (p, c) =>
    match hs.cams[c] with
    | none => .colour hs.background
    | some e =>
      let dx := x - p.px
      let dy := y - p.py
      if e.overlay = .fill then .colour hs.lost
      else if p.inBand hs.border dx dy ∧ e.overlay = .stale then .colour hs.stale
      else if p.inBand hs.border dx dy ∧ e.overlay = .warn ∧ p.warns then .colour hs.warn
      else
        let cam := s.cam c
        let at' := p.sourceOf cam.geom dx dy
        cam.picture c e hs.background at'.1 at'.2 p.mirror

/-- The plan of the beat at window offset `o` of a screen with geometry `g` (R105, R108): 16 items, all
background in the padding. -/
def State.plan (s : State) (g : ScrGeom) (hs : HoldSet) (o : Nat) : List PlanItem :=
  if g.bytes ≤ o then List.replicate 16 (.colour hs.background)
  else
    let m0 := o % g.lineBytes / 4
    (List.range 16).map fun i => s.planItem hs (2 * (m0 + i)) (g.lineOf o)

/-! ### Fetches (R115) -/

/-- The source beat an unformed item needs: camera, slot, beat address. -/
def PlanItem.beat : PlanItem → Option (CamId × Nat × Nat)
  | .source src none => some (src.cam, src.slot, src.addr / 64 * 64)
  | _ => none

/-- The distinct members of a list, in order of first appearance, without those already seen. -/
def distinct {α : Type} [DecidableEq α] : List α → List α → List α
  | [], _ => []
  | a :: rest, seen => if a ∈ seen then distinct rest seen else a :: distinct rest (a :: seen)

/-- The source beats a plan names, each once, in plan order (R115). -/
def planBeats (plan : List PlanItem) : List (CamId × Nat × Nat) :=
  distinct (plan.filterMap PlanItem.beat) []

/-- A fetch handed to the COMPOSE queue. -/
def State.handFetch (s : State) (f : Fetch) : State :=
  s.hand .compose f.addr (.read (.compose f))

/-- Waiting fetches handed, oldest first, while the COMPOSE queue has places; the rest wait on, and the
list given is what waits (R115). -/
def State.handFetches (s : State) : List Fetch → State
  | [] => { s with fetchWait := [] }
  | f :: rest =>
    if s.room .compose then (s.handFetch f).handFetches rest
    else { s with fetchWait := f :: rest }

/-! ### Forming (R116) -/

/-- The macropixel of an item, a colour given for one that has not been formed. -/
def PlanItem.pixel (unformed : Macropixel) : PlanItem → Macropixel
  | .colour m => m
  | .source _ (some m) => m
  | .source _ none => unformed

/-- The response beat of a plan. -/
def planResponse (unformed : Macropixel) (plan : List PlanItem) : Beat :=
  beatOfMacropixels unformed (plan.map (PlanItem.pixel unformed))

/-- Y0 and Y1 exchanged where the swap flag is set (R112). -/
def Macropixel.swapped (m : Macropixel) (swap : Bool) : Macropixel :=
  if swap then { m with y0 := m.y1, y1 := m.y0 } else m

/-- An item after a source beat has returned: formed if that beat holds it (R116). -/
def PlanItem.fill (f : Fetch) (d : Beat) : PlanItem → PlanItem
  | .source src none =>
    if src.cam = f.cam ∧ src.slot = f.slot ∧ src.addr / 64 * 64 = f.addr then
      .source src (some ((beatMacropixel d (src.addr % 64)).swapped src.swap))
    else .source src none
  | it => it

/-! ### The composition table (R103) -/

/-- The screen's table with an entry changed. -/
def Screen.modEntry (x : Screen) (id : Nat) (f : Entry → Entry) : Screen :=
  { x with table := x.table.map fun e => if e.id = id then f e else e }

/-- The screen's table with an entry removed. -/
def Screen.removeEntry (x : Screen) (id : Nat) : Screen :=
  { x with table := x.table.filter (·.id != id) }

/-- An entry is WAITING. -/
def Entry.isWaiting (e : Entry) : Bool := e.state == .waiting

/-- An entry is in flight under the set of a role (R95). -/
def Entry.under (e : Entry) (r : SetRole) : Bool :=
  match e.state with
  | .fetching q _ _ => q == r
  | .waiting => false

/-- Some read beat of the screen is in flight under the set (R95). -/
def Screen.inFlight (x : Screen) (r : SetRole) : Bool := x.table.any (·.under r)

/-- A WAITING entry composed under a hold set, by now the active one (R104 step 5, R118): answered at
once if its plan is all colour, else FETCHING with its fetches handed as far as the queue has places.
Fetches that wait from earlier entries are handed in the same event, before the entry's own (DESIGN
CHOICE, log entry 30). -/
def State.composeEntry (s : State) (sc : ScrId) (hs : HoldSet) (e : Entry) : State :=
  let x := s.screen sc
  let plan := s.plan x.geom hs e.offset
  let beats := planBeats plan
  if beats.isEmpty then
    (s.setScreen sc (x.removeEntry e.id)).formRead e.resp (planResponse hs.background plan)
  else
    let s := s.setScreen sc
      (x.modEntry e.id fun q => { q with state := .fetching .active plan beats.length })
    s.handFetches
      (s.fetchWait ++ beats.map fun b => ⟨sc, e.id, b.1, b.2.1, b.2.2⟩)

/-- Entries composed in order. -/
def State.composeEntries (s : State) (sc : ScrId) (hs : HoldSet) : List Entry → State
  | [] => s
  | e :: rest => (s.composeEntry sc hs e).composeEntries sc hs rest

/-- The WAITING entries of a screen composed, in table order, under its active set (R118). -/
def State.composeWaiting (s : State) (sc : ScrId) : State :=
  let x := s.screen sc
  match x.active with
  | some hs => s.composeEntries sc hs (x.table.filter Entry.isWaiting)
  | none => s

/-- A read beat that has arrived joins the table, WAITING (R103). -/
def State.addEntry (s : State) (sc : ScrId) (p : PortTag) (o : Nat) : State :=
  let x := s.screen sc
  let e : Entry := ⟨s.nextEntry, p.stream, s.port.place p, o, .waiting⟩
  let s := s.expectRead p
  { s.setScreen sc { x with table := x.table ++ [e] } with nextEntry := s.nextEntry + 1 }

end Sys2Proof.Machine
end

