-- ==== Sys2Proof/Machine/Latch.lean ====
section
/-!
DEFINITION. The Screen Latch Controller: the latch (R90 to R94), owed latches (R89), retiring sets
(R95), and what a completion does to the sets that show the frame (R96).
-/
namespace Sys2Proof.Machine

/-! ### Camera entries (R92 to R94) -/

/-- The target slot of an early latch, where it applies (R93). -/
def Camera.earlySlot (x : Camera) : Option Nat :=
  match x.intake with
  | some r =>
    if 1 ≤ x.earlyLines ∧ r.disordered = false ∧ x.earlyLines ≤ r.linesDone then r.target else none
  | none => none

/-- The overlay of an entry with a primary slot (R94). -/
def Camera.overlay (x : Camera) : Overlay :=
  if x.chan = .stale then .stale else if x.eval.verdict = .dirty then .warn else .none

/-- The camera entry a latch forms (R92). -/
def Camera.entry (x : Camera) : CamEntry :=
  if x.chan = .disarmed ∨ x.chan = .lost then ⟨none, none, .fill⟩
  else
    match x.earlySlot with
    | some t => ⟨some t, x.newest, x.overlay⟩
    | none =>
      match x.newest with
      | some j => ⟨some j, none, x.overlay⟩
      | none => ⟨none, none, .fill⟩

/-! ### Hold tags of a set (R90, R95) -/

/-- The set of a role. -/
def Screen.setOf (x : Screen) : SetRole → Option HoldSet
  | .active => x.active
  | .retiring => x.retiring

/-- The screen with the set of a role replaced. -/
def Screen.withSet (x : Screen) (r : SetRole) (hs : Option HoldSet) : Screen :=
  match r with
  | .active => { x with active := hs }
  | .retiring => { x with retiring := hs }

/-- The slots and tags of a camera entry: primary, then fallback. -/
def CamEntry.holds (e : CamEntry) (sc : ScrId) (r : SetRole) : List (Nat × Nat) :=
  (e.primary.toList.map fun j => (j, screenTag sc r false)) ++
    (e.fallback.toList.map fun j => (j, screenTag sc r true))

/-- Every hold of a set: camera, slot, tag. -/
def HoldSet.holds (hs : HoldSet) (sc : ScrId) (r : SetRole) : List (CamId × Nat × Nat) :=
  allCams.flatMap fun c =>
    match hs.cams[c] with
    | some e => (e.holds sc r).map fun h => (c, h.1, h.2)
    | none => []

/-- Hold tags added. -/
def State.addTags (s : State) : List (CamId × Nat × Nat) → State
  | [] => s
  | h :: rest => (s.addTag h.1 h.2.1 h.2.2).addTags rest

/-- Hold tags removed. -/
def State.removeTags (s : State) : List (CamId × Nat × Nat) → State
  | [] => s
  | h :: rest => (s.removeTag h.1 h.2.1 h.2.2).removeTags rest

/-- Active tags replaced by retiring ones: a tag's retiring form is two flags above it (R90, step 3). -/
def State.retireTags (s : State) : List (CamId × Nat × Nat) → State
  | [] => s
  | h :: rest => (s.swapTag h.1 h.2.1 h.2.2 (h.2.2 + 2)).retireTags rest

/-- A hold set released: its tags are removed and the set is empty (R95, R99). -/
def State.dropSet (s : State) (sc : ScrId) (r : SetRole) : State :=
  match (s.screen sc).setOf r with
  | some hs =>
    let s := s.removeTags (hs.holds sc r)
    s.setScreen sc ((s.screen sc).withSet r none)
  | none => s

/-! ### The latch (R85, R90, R91) -/

/-- A pending COMMIT applied, and answered DONE (R85; R90, step 1). -/
def State.applyCommit (s : State) (sc : ScrId) : State :=
  let x := s.screen sc
  match x.pendingCommit with
  | some _ =>
    (s.setScreen sc { x with committed := x.cfg.staged, pendingCommit := none }).answerEnd
      (.screen sc) .done
  | none => s

/-- The layout choice: the lowest active line with a present entrance layout, else NORMAL (R91). -/
def State.chooseLayout (s : State) (ls : Layouts) : LayoutChoice :=
  match allLines.find? fun l => (s.line l).accepted && ls.entrance[l].present with
  | some l => .entrance l
  | none => .normal

/-- The layout a choice names. -/
def Layouts.get (ls : Layouts) : LayoutChoice → Layout
  | .normal => ls.normal
  | .entrance l => ls.entrance[l]

/-- The old active set retires; without a read in flight under it it is released at once (R90, step 3;
R95). -/
def State.retire (s : State) (sc : ScrId) : State :=
  let x := s.screen sc
  match x.active with
  | some hs =>
    let s := s.retireTags (hs.holds sc .active)
    let table := x.table.map fun e =>
      match e.state with
      | .fetching .active plan n => { e with state := .fetching .retiring plan n }
      | _ => e
    let s := s.setScreen sc { x with active := none, retiring := some hs, table := table }
    if x.inFlight .active then s else s.dropSet sc .retiring
  | none => s

/-- The new active set: layout, border width and colours in use, and a camera entry for each camera the
layout uses (R90, steps 2 and 4). -/
def State.newSet (s : State) (x : Screen) (choice : LayoutChoice) : HoldSet where
  choice := choice
  layout := x.committed.get choice
  border := x.cfg.borderUsed
  background := x.cfg.background
  lost := x.cfg.lost
  stale := x.cfg.stale
  warn := x.cfg.warn
  cams := Vector.ofFn fun c =>
    if (x.committed.get choice).uses c then some (s.cam c).entry else none

/-- The latch's new set installed with its tags, and the bookkeeping of R90 step 5 and R120. -/
def State.install (s : State) (sc : ScrId) (choice : LayoutChoice) : State :=
  let hs := s.newSet (s.screen sc) choice
  let s := s.addTags (hs.holds sc .active)
  let x := s.screen sc
  s.setScreen sc { x with
    active := some hs
    choice := some choice
    latchCount := x.latchCount + 1
    state := .running
    misuse := false }

/-- A LAYOUT_CHANGED report where the choice differs from that of the previous latch (R91). -/
def State.reportLayout (s : State) (sc : ScrId) (choice : LayoutChoice) : State :=
  let x := s.screen sc
  if x.choice = some choice then s
  else
    s.report .layoutChanged sc.val (detail (choiceCode x.choice) choice.code 0) (x.latchCount + 1)

/-- A latch performed (R90). -/
def State.performLatch (s : State) (sc : ScrId) : State :=
  let s := s.applyCommit sc
  let choice := s.chooseLayout (s.screen sc).committed
  ((s.reportLayout sc choice).retire sc).install sc choice

/-- A latch falls due: owed while the retiring set is not empty, else performed (R89). -/
def State.latchDue (s : State) (sc : ScrId) : State :=
  let x := s.screen sc
  if x.retiring.isSome then s.setScreen sc { x with owed := true } else s.performLatch sc

/-- The owed latch performed at the release, with the WAITING entries after it (R89, R118). -/
def State.performOwed (s : State) (sc : ScrId) : State :=
  let x := s.screen sc
  if x.owed then ((s.setScreen sc { x with owed := false }).performLatch sc).composeWaiting sc
  else s

/-- The retiring set released, and an owed latch performed (R95). -/
def State.releaseRetiring (s : State) (sc : ScrId) : State :=
  (s.dropSet sc .retiring).performOwed sc

/-- After an entry has been answered: the set it was under is released if it was the last in flight
under a retiring set, or under the active set a DISABLE left (R95, R99, R116). -/
def State.releaseAfter (s : State) (sc : ScrId) (r : SetRole) : State :=
  let x := s.screen sc
  if x.inFlight r then s
  else
    match r with
    | .retiring => s.releaseRetiring sc
    | .active => if x.state = .disabled then s.dropSet sc .active else s

/-- A composer fetch returns (R116): it forms the plan's macropixels; with the entry's last fetch the
response is formed and the entry removed. A fetch whose entry is gone is discarded (R121). -/
def State.fetchReturn (s : State) (f : Fetch) (d : Beat) : State :=
  let x := s.screen f.screen
  match x.table.find? (·.id == f.entry) with
  | some e =>
    match e.state with
    | .fetching r plan n =>
      let plan := plan.map (PlanItem.fill f d)
      if n ≤ 1 then
        let bg := match x.setOf r with
          | some hs => hs.background
          | none => x.cfg.background
        ((s.setScreen f.screen (x.removeEntry e.id)).formRead e.resp
          (planResponse bg plan)).releaseAfter f.screen r
      else
        s.setScreen f.screen
          (x.modEntry e.id fun q => { q with state := .fetching r plan (n - 1) })
    | .waiting => s
  | none => s

/-! ### The fallback release (R96, R115) -/

/-- The fallback of a set whose primary for camera `c` is slot `p`. -/
def HoldSet.fallbackOf (hs : HoldSet) (c : CamId) (p : Nat) : Option Nat :=
  match hs.cams[c] with
  | some e => if e.primary = some p then e.fallback else none
  | none => none

/-- The set without a fallback for camera `c`. -/
def HoldSet.noFallback (hs : HoldSet) (c : CamId) : HoldSet :=
  match hs.cams[c] with
  | some e => { hs with cams := hs.cams.set c (some { e with fallback := none }) }
  | none => hs

/-- A waiting fetch of the set's entries to the fallback `f` becomes a fetch of the beat at the same
offset of the primary `p` (R115). -/
def Fetch.retarget (g : CamGeom) (sc : ScrId) (c : CamId) (f p : Nat) (ids : List Nat)
    (w : Fetch) : Fetch :=
  if w.screen = sc ∧ w.entry ∈ ids ∧ w.cam = c ∧ w.slot = f then
    { w with slot := p, addr := w.addr - g.slotAddr f + g.slotAddr p }
  else w

/-- The items of an entry whose fetch waits follow it to the primary (R115). -/
def PlanItem.retarget (g : CamGeom) (sc : ScrId) (c : CamId) (f p id : Nat) (wait : List Fetch) :
    PlanItem → PlanItem
  | .source src none =>
    if src.cam = c ∧ src.slot = f ∧ wait.contains ⟨sc, id, c, f, src.addr / 64 * 64⟩ then
      .source { src with slot := p, addr := src.addr - g.slotAddr f + g.slotAddr p } none
    else .source src none
  | it => it

/-- The entry with the items of its waiting fetches changed. -/
def Entry.retarget (g : CamGeom) (sc : ScrId) (c : CamId) (f p : Nat) (wait : List Fetch)
    (r : SetRole) (e : Entry) : Entry :=
  match e.state with
  | .fetching q plan n =>
    if q = r then
      { e with state := .fetching q (plan.map (PlanItem.retarget g sc c f p e.id wait)) n }
    else e
  | .waiting => e

/-- At a completion in slot `p` of camera `c`: the fallback tag of one set that holds it as primary is
removed, and the set's fetches that still wait become fetches of the primary (R96, R115). -/
def State.releaseFallback (s : State) (c : CamId) (p : Nat) (sc : ScrId) (r : SetRole) : State :=
  let x := s.screen sc
  match x.setOf r with
  | none => s
  | some hs =>
    match hs.fallbackOf c p with
    | none => s
    | some f =>
      let g := (s.cam c).geom
      let ids := (x.table.filter (·.under r)).map Entry.id
      let x := x.withSet r (some (hs.noFallback c))
      let s := s.removeTag c f (screenTag sc r true)
      let s := s.setScreen sc
        { x with table := x.table.map (Entry.retarget g sc c f p s.fetchWait r) }
      { s with fetchWait := s.fetchWait.map (Fetch.retarget g sc c f p ids) }

/-- The fallback release over the sets listed. -/
def State.releaseFallbacks (s : State) (c : CamId) (p : Nat) : List (ScrId × SetRole) → State
  | [] => s
  | q :: rest => (s.releaseFallback c p q.1 q.2).releaseFallbacks c p rest

/-- The active and the retiring set of every screen. -/
def allSets : List (ScrId × SetRole) :=
  allScreens.flatMap fun sc => [(sc, .active), (sc, .retiring)]

end Sys2Proof.Machine
end

