-- ==== Sys2Proof/Machine/Screens.lean ====
section
/-!
DEFINITION. What reaches a screen: its sync line and timers (R87, R88), read and write beats of its
window (R86, R104, R119, R120), and the requests ENABLE, DISABLE and COMMIT (R85, R98 to R100).
-/
namespace Sys2Proof.Machine

/-! ### Sync line and timers (R87, R88) -/

/-- The change to `level` is the selected edge (R87). -/
def Screen.selects (x : Screen) (level : Bool) : Bool := level != x.cfg.falling

/-- A change of the sync line (R87). -/
def State.syncChange (s : State) (sc : ScrId) (level : Bool) : State :=
  let x := { s.screen sc with sync := level }
  let s := s.setScreen sc x
  if x.enabled ∧ x.geom.mode = .sync ∧ x.selects level then
    if x.offsetTimer.isSome then
      s.setScreen sc { x with ignoredSyncs := x.ignoredSyncs + 1 }
    else if x.cfg.offsetTime = 0 then s.latchDue sc
    else
      s.setScreen sc
        { x with offsetTimer := some (timeAfter s.timebase x.cfg.offsetTime.toNat) }
  else s

/-- A screen's offset timer runs out: a latch falls due (R87). -/
def State.offsetExpiry (s : State) (sc : ScrId) : State :=
  (s.setScreen sc { s.screen sc with offsetTimer := none }).latchDue sc

/-- A screen's cycle timer runs out: it is set again from that moment, and a latch falls due (R88). -/
def State.cycleExpiry (s : State) (sc : ScrId) : State :=
  let x := s.screen sc
  (s.setScreen sc { x with cycleTimer := some (timeAfter s.timebase x.cfg.periodUsed) }).latchDue sc

/-! ### Read beats (R86, R104) -/

/-- A READ_START latch falls due on a read beat of this line (R86). -/
def Screen.readLatches (x : Screen) (line : Nat) : Bool :=
  x.geom.mode == .readStart &&
    (x.lastLine == none || (line == 0 && x.lastLine != some 0))

/-- Sixteen copies of a macropixel (R104, R119). -/
def uniformBeat (m : Macropixel) : Beat := beatOfMacropixels m []

/-- A read beat that has passed the latch test: it waits for an owed latch, is answered without a set,
or is composed under the active set (R104, steps 3 to 5). -/
def State.serveRead (s : State) (sc : ScrId) (p : PortTag) (o : Nat) : State :=
  let x := s.screen sc
  if x.geom.mode = .readStart ∧ x.owed then s.addEntry sc p o
  else
    match x.state, x.active with
    | .running, some hs =>
      let id := s.nextEntry
      let s := s.addEntry sc p o
      match (s.screen sc).table.find? (·.id == id) with
      | some e => s.composeEntry sc hs e
      | none => s
    | _, _ => s.answerRead p (uniformBeat x.cfg.background)

/-- A read beat of an enabled screen's window at offset `o`, taken: latch test, last line read, answer
(R86, R104). -/
def State.screenRead (s : State) (sc : ScrId) (p : PortTag) (o : Nat) : State :=
  let x := s.screen sc
  let line := x.geom.lineOf o
  let due := x.readLatches line
  let s := s.setScreen sc { x with lastLine := some line }
  (if due then s.latchDue sc else s).serveRead sc p o

/-- The composition table of a screen has room (R103, R104). -/
def Screen.hasRoom (x : Screen) : Bool := x.table.length < 32

/-! ### Write beats (R120) -/

/-- A write beat to an enabled screen's window: absorbed and counted, and reported once per latch
interval (R120). -/
def State.screenWrite (s : State) (sc : ScrId) (o : Nat) : State :=
  let x := s.screen sc
  let s := s.setScreen sc { x with misuseCount := x.misuseCount + 1, misuse := true }
  if x.misuse then s
  else s.report .windowMisuse sc.val (BitVec.ofNat 32 o) x.latchCount

/-! ### Requests (R85, R98 to R100) -/

/-- The result of ENABLE (R98, R100, R152). -/
def State.enableResult (s : State) (sc : ScrId) : Result :=
  let x := s.screen sc
  if x.enabled then .refusedState
  else if x.cfg.geom.valid = false then .geometry
  else if s.enableOverlaps sc x.cfg.geom then .overlap
  else if x.active.isSome ∨ x.retiring.isSome then .busy
  else .done

/-- The screen as a successful ENABLE leaves it (R81, R98, R103, R88). -/
def Screen.enable (x : Screen) (now : Time) : Screen :=
  { x with
    geom := x.cfg.geom
    state := .waitLatch
    choice := none
    lastLine := none
    latchCount := 0
    ignoredSyncs := 0
    owed := false
    offsetTimer := none
    cycleTimer :=
      if x.cfg.mode = .cycle then some (timeAfter now x.cfg.periodUsed) else none
    misuse := false
    misuseCount := 0 }

/-- ENABLE (R98, R100). -/
def State.takeEnable (s : State) (sc : ScrId) : State :=
  let r := s.enableResult sc
  (if r = .done then s.setScreen sc ((s.screen sc).enable s.timebase) else s).answer (.screen sc) r

/-- A hold set released where no read beat is in flight under it (R99, step 4). -/
def State.dropIdleSet (s : State) (sc : ScrId) (r : SetRole) : State :=
  if (s.screen sc).inFlight r then s else s.dropSet sc r

/-- DISABLE performed on an enabled screen (R99, R118). -/
def State.disableScreen (s : State) (sc : ScrId) : State :=
  let s := s.applyCommit sc
  let s := s.setScreen sc
    { s.screen sc with offsetTimer := none, cycleTimer := none, owed := false }
  let s := s.composeWaiting sc
  let s := s.setScreen sc { s.screen sc with state := .disabled }
  (s.dropIdleSet sc .active).dropIdleSet sc .retiring

/-- DISABLE (R99, R100). -/
def State.takeDisable (s : State) (sc : ScrId) : State :=
  (if (s.screen sc).enabled then s.disableScreen sc else s).answer (.screen sc) .done

/-- COMMIT (R85, R100). -/
def State.takeCommit (s : State) (sc : ScrId) : State :=
  let x := s.screen sc
  if x.state = .running then
    if x.pendingCommit.isSome then s.answer (.screen sc) .busy
    else
      (s.setScreen sc
        { x with pendingCommit := some (s.mailbox (.screen sc)).tag }).answerOpen (.screen sc)
  else (s.setScreen sc { x with committed := x.cfg.staged }).answer (.screen sc) .done

end Sys2Proof.Machine
end

