-- ==== Sys2Proof/Machine/Snapshot.lean ====
section
/-!
DEFINITION. The Snapshot Engine: descriptors and trigger copies (R123 to R126), selection (R131), the
checks and the copy of a run (R133 to R136), its end, and the end of its chain (R138 to R141).
-/
namespace Sys2Proof.Machine

/-! ### Trigger copies (R123, R125, R126) -/

/-- A camera field, bits 0 to 2 of its byte: 6 and 7 name none (R123, 11.3). -/
def cameraField (n : Nat) : Option CamId := if h : n < 6 then some ⟨n, h⟩ else none

/-- The copy's enable flag. -/
def TriggerCopy.enabled (t : TriggerCopy) : Bool := byteBit t.enable 0

/-- The copy's armed flag. -/
def TriggerCopy.isArmed (t : TriggerCopy) : Bool := byteBit t.armed 0

/-- The copy's camera number, 0 to 7. -/
def TriggerCopy.cameraNat (t : TriggerCopy) : Nat := t.camera.toNat % 8

/-- The trigger source of bytes 06h and 07h of a record; a code naming none is NONE (R123, 11.3). -/
def triggerOf (source edge : Byte) : Trigger :=
  if source = 1 then
    .entrance ⟨edge.toNat % 4, Nat.mod_lt _ (by decide)⟩ (!byteBit edge 2)
  else if source = 2 then .cameraDirty
  else if source = 3 then .cameraStale
  else .none

/-- The copy's trigger source (R123). -/
def TriggerCopy.trigger (t : TriggerCopy) : Trigger := triggerOf t.source t.edge

/-- The hardware events of R126. -/
inductive HwEvent where
  | edge (l : LineId) (active : Bool)
  | dirty (c : CamId)
  | stale (c : CamId)
  deriving DecidableEq, Repr

/-- The trigger copy matches the event (R126). -/
def TriggerCopy.hit (t : TriggerCopy) (ev : HwEvent) : Bool :=
  t.enabled && t.isArmed &&
    match ev with
    | .edge l a => t.trigger == .entrance l a
    | .dirty c => t.trigger == .cameraDirty && t.cameraNat == c.val
    | .stale c => t.trigger == .cameraStale && t.cameraNat == c.val

/-- Descriptor `n`'s trigger copy. -/
def Engine.copyOf (e : Engine) (n : DescId) : TriggerCopy := e.copies[n]

/-- The engine with descriptor `n`'s trigger copy replaced. -/
def Engine.setCopy (e : Engine) (n : DescId) (t : TriggerCopy) : Engine :=
  { e with copies := e.copies.set n t }

/-- A descriptor's flag in the pending set. -/
def descBit (n : DescId) : BitVec 16 := 1#16 <<< n.val

/-- Descriptor `n` is in the pending set. -/
def Engine.isPending (e : Engine) (n : DescId) : Bool := e.pending.getLsbD n.val

/-- A triggered or started descriptor joins the pending set, or raises the coalesced count if it is
there (R126, R127). -/
def Engine.add (e : Engine) (n : DescId) : Engine :=
  if e.isPending n then { e with coalesced := satInc e.coalesced }
  else { e with pending := e.pending ||| descBit n }

/-- Several descriptors triggered by one event (R126). -/
def Engine.addAll (e : Engine) : List DescId → Engine
  | [] => e
  | n :: rest => (e.add n).addAll rest

/-! ### Selection (R131) -/

/-- Descriptor `n` becomes the running descriptor and the engine enters LOADING (R131, R132). -/
def Engine.enterLoading (e : Engine) (n : DescId) : Engine :=
  { e with
    state := .loading
    running := some n
    loaded := none
    source := none
    loadHanded := false
    armLate := false
    copy := none
    copied := false
    ended := false
    ending := .none
    cut := false
    run := e.run + 1 }

/-- The lowest index of the pending set. -/
def Engine.firstPending (e : Engine) : Option DescId := allDescs.find? e.isPending

/-- Selection: the chain continuation, else, with the engine enable set, the lowest pending descriptor;
else IDLE, or DISABLED with the engine enable clear (R131, R143). -/
def Engine.select (e : Engine) : Engine :=
  match e.continuation with
  | some n => Engine.enterLoading { e with continuation := none } n
  | none =>
    if e.enable then
      match e.firstPending with
      | some n => Engine.enterLoading { e with pending := e.pending &&& ~~~(descBit n) } n
      | none => { e with state := .idle }
    else { e with state := .disabled }

/-- Selection in IDLE, at the event that adds to the pending set (R131). -/
def Engine.wake (e : Engine) : Engine := if e.state = .idle then e.select else e

/-- A hardware event: every descriptor whose trigger copy matches is triggered (R126). -/
def State.trigger (s : State) (ev : HwEvent) : State :=
  let e := s.engine
  s.setEngine (e.addAll (allDescs.filter fun n => (e.copyOf n).hit ev)).wake

/-! ### The loaded copy (R123, R124) -/

/-- The descriptor mode of a code; a code naming none is FRAME (R123). -/
def descMode (b : Byte) : DescMode := if b = 1 then .burst else if b = 2 then .crop else .frame

/-- The loaded copy, from the 64 bytes of the record (R132, 11.3). -/
def loadedOf (d : Beat) : Loaded where
  enable := byteBit (beatByte d 0x00) 0
  armed := byteBit (beatByte d 0x01) 0
  notify := byteBit (beatByte d 0x02) 0
  link := byteBit (beatByte d 0x02) 1
  target := ⟨(beatByte d 0x03).toNat % 16, Nat.mod_lt _ (by decide)⟩
  mode := descMode (beatByte d 0x04)
  camera := (beatByte d 0x05).toNat % 8
  trigger := triggerOf (beatByte d 0x06) (beatByte d 0x07)
  destBase := beatLe d 0x08 8 % 2 ^ 40 / 64 * 64
  remaining := BitVec.ofNat 16 (beatLe d 0x10 2)
  places := BitVec.ofNat 16 (beatLe d 0x12 2)
  nextPlace := BitVec.ofNat 16 (beatLe d 0x14 2)
  cropX := BitVec.ofNat 16 (beatLe d 0x16 2)
  cropY := BitVec.ofNat 16 (beatLe d 0x18 2)
  cropW := BitVec.ofNat 16 (beatLe d 0x1A 2)
  cropH := BitVec.ofNat 16 (beatLe d 0x1C 2)
  lastResult := beatByte d 0x20
  lastSeq := BitVec.ofNat 32 (beatLe d 0x24 4)
  completions := BitVec.ofNat 16 (beatLe d 0x28 2)

/-- The camera the descriptor names. -/
def Loaded.cam (d : Loaded) : Option CamId := cameraField d.camera

/-- Places in use (R123). -/
def Loaded.placesUsed (d : Loaded) : Nat := clamp 1 64 d.places.toNat

/-- The place the next copy takes (R123). -/
def Loaded.place (d : Loaded) : Nat := d.nextPlace.toNat % d.placesUsed

/-- A rectangle of a frame, in pixels and lines. -/
structure Rect where
  x : Nat
  y : Nat
  w : Nat
  h : Nat
  deriving DecidableEq, Repr

/-- What a copy takes of the frame: the whole of it, or the crop made whole and clamped (R124). -/
def Loaded.rect (d : Loaded) (g : CamGeom) : Rect :=
  match d.mode with
  | .crop =>
    let x := min (d.cropX.toNat / 2 * 2) (g.w - 2)
    let y := min d.cropY.toNat (g.h - 1)
    { x := x
      y := y
      w := min (max 2 (d.cropW.toNat / 2 * 2)) (g.w - x)
      h := min (max 1 d.cropH.toNat) (g.h - y) }
  | _ => ⟨0, 0, g.w, g.h⟩

/-- Place size in bytes (R124). -/
def Rect.size (r : Rect) : Nat := r.w * r.h * 2

/-- Place stride in bytes (R124). -/
def Rect.stride (r : Rect) : Nat := roundUp r.size 64

/-- The destination range of a run (R124). -/
def Loaded.dest (d : Loaded) (g : CamGeom) : Range :=
  ⟨d.destBase, d.placesUsed * (d.rect g).stride⟩

/-! ### Reports of the engine (R140, R141) -/

/-- A SNAP_ENDED report (R141, R174). -/
def State.reportEnded (s : State) (n : DescId) (r : SnapResult) (camera : Nat)
    (remaining : BitVec 16) (seq : BitVec 32) : State :=
  s.report .snapEnded n.val (detail r.code camera remaining.toNat) seq

/-- A SNAP_DONE report for an entry of the held completion list (R140, R174). -/
def State.reportDone (s : State) (x : HeldDone) : State :=
  s.report .snapDone x.desc.val (detail x.finishes x.camera x.nextPlace.toNat) x.lastSeq

/-- SNAP_DONE reports for the entries, in list order (R140). -/
def State.reportAllDone (s : State) : List HeldDone → State
  | [] => s
  | x :: rest => (s.reportDone x).reportAllDone rest

/-- The end of a chain: the held completion list is reported and emptied, and selection follows
(R131, R140). -/
def State.chainEnd (s : State) : State :=
  let s := s.reportAllDone s.engine.held
  s.setEngine (Engine.select { s.engine with held := [], continuation := none })

/-! ### The run (R133 to R136) -/

/-- The run ends for a cause: SNAP_ENDED is written, the last result becomes the cause, and the engine
enters STORING (R133, R136, R141). -/
def State.endRun (s : State) (r : SnapResult) : State :=
  match s.engine.running, s.engine.loaded with
  | some n, some d =>
    let s := s.reportEnded n r d.camera d.remaining d.lastSeq
    s.setEngine { s.engine with
      loaded := some { d with lastResult := BitVec.ofNat 8 r.code }
      state := .storing
      ended := true }
  | _, _ => s

/-- A run ended early enters STORING: last result ABORTED, and SNAP_ENDED unless a RESTART waits for
the run (R142, R148). -/
def State.storeAborted (s : State) : State :=
  if s.restartOpen then
    s.setEngine { s.engine with
      loaded := s.engine.loaded.map fun d => { d with lastResult := 6 }
      state := .storing
      ended := true }
  else s.endRun .aborted

/-- Copying begins from slot `j` of camera `c`, which takes the SNAP tag (R133, R136). -/
def State.startCopy (s : State) (c : CamId) (j : Nat) (d : Loaded) : State :=
  let g := (s.cam c).geom
  let r := d.rect g
  let s := s.addTag c j snapTag
  s.setEngine { s.engine with
    state := .copying
    source := some (c, j)
    copy := some
      { slotAddr := g.slotAddr j, frameW := g.w, x := r.x, y := r.y, w := r.w, h := r.h
        placeAddr := d.destBase + d.place * r.stride
        readsSent := 0, readsBack := 0, buffer := [], written := 0 } }

/-- The checks of R133 on the loaded copy, made as the descriptor read returns. -/
def State.checkLoaded (s : State) (d : Loaded) : State :=
  if d.enable = false then
    (s.setEngine { s.engine with running := none, loaded := none }).chainEnd
  else if d.remaining = 0 then s.endRun .spent
  else
    match d.cam with
    | none => s.endRun .noFrame
    | some c =>
      let x := s.cam c
      if x.chan ≠ .disarmed ∧ s.destBad (d.dest x.geom) then s.endRun .badDest
      else if x.chan = .disarmed ∨ x.chan = .lost then s.endRun .noFrame
      else
        match x.newest with
        | none => s.endRun .noFrame
        | some j => s.startCopy c j d

/-- Source beats that hold one line of the rectangle (R134, R135). -/
def CopyRun.lineBeats (k : CopyRun) : Nat := (2 * k.x + 2 * k.w - 1) / 64 - 2 * k.x / 64 + 1

/-- Source beats of the whole copy. -/
def CopyRun.totalReads (k : CopyRun) : Nat := k.lineBeats * k.h

/-- The address of source beat `i` of the copy, line by line (R134, R135). -/
def CopyRun.readAddr (k : CopyRun) (i : Nat) : Nat :=
  k.slotAddr + (k.y + i / k.lineBeats) * k.frameW * 2 + (2 * k.x / 64 + i % k.lineBeats) * 64

/-- The bytes of source beat `i` that belong to the rectangle, in order (R135). -/
def CopyRun.keep (k : CopyRun) (i : Nat) (d : Beat) : List Byte :=
  let start := (2 * k.x / 64 + i % k.lineBeats) * 64
  ((List.range 64).filter fun b => 2 * k.x ≤ start + b && start + b < 2 * k.x + 2 * k.w).map
    (beatByte d)

/-- Place size of the copy. -/
def CopyRun.size (k : CopyRun) : Nat := k.w * k.h * 2

/-- Destination beats of the copy (R135). -/
def CopyRun.totalWrites (k : CopyRun) : Nat := (k.size + 63) / 64

/-- The place bytes that the next destination beat holds: 64, or fewer at the end of the place. -/
def CopyRun.nextBytes (k : CopyRun) : Nat := min 64 (k.size - k.written * 64)

/-- The next destination beat can be sent: the reads it copies have returned (R134). -/
def CopyRun.writeReady (k : CopyRun) : Bool :=
  k.written < k.totalWrites && k.nextBytes ≤ k.buffer.length

/-- Every read sent has returned, and its writes have been handed (R142). A destination beat whose
bytes have not all been read is not sent (log entry 14). -/
def CopyRun.quiet (k : CopyRun) : Bool := k.readsBack == k.readsSent && !k.writeReady

/-- The frame sequence of the source slot (R134). -/
def State.sourceSeq (s : State) : BitVec 32 :=
  match s.engine.source with
  | some (c, j) => ((s.cam c).slot j).seq.getD 0
  | none => 0

/-- The SNAP tag is removed and the source slot becomes absent (R134, R142). -/
def State.dropSource (s : State) : State :=
  let s' := match s.engine.source with
    | some (c, j) => s.removeTag c j snapTag
    | none => s
  s'.setEngine { s'.engine with source := none, copy := none }

/-- An early end of a copy, once nothing of it is in flight (R142, R148). -/
def State.settleAbort (s : State) : State :=
  match s.engine.copy with
  | some k =>
    if s.engine.state = .copying ∧ s.engine.ending ≠ .none ∧ k.quiet then s.dropSource.storeAborted
    else s
  | none => s

/-- The loaded copy after a copy has ended (R134, steps 1 to 4). -/
def Loaded.afterCopy (d : Loaded) (seq : BitVec 32) : Loaded :=
  { d with
    remaining := d.remaining - 1
    nextPlace := BitVec.ofNat 16 ((d.nextPlace.toNat + 1) % d.placesUsed)
    completions := d.completions + 1
    lastSeq := seq
    lastResult := BitVec.ofNat 8 SnapResult.copied.code }

/-- What follows the end of a copy: STORING, or for a BURST with copies remaining WAITING_FRAME while
its camera is WAITING or LIVE, else STORING with cause STALE (R136). -/
def State.afterCopy (s : State) (d : Loaded) : State :=
  let burstOn := d.mode = .burst ∧ d.remaining ≠ 0
  if burstOn then
    let chan := match d.cam with
      | some c => (s.cam c).chan
      | none => .disarmed
    if chan = .waiting ∨ chan = .live then s.setEngine { s.engine with state := .waitingFrame }
    else s.endRun .stale
  else s.setEngine { s.engine with state := .storing }

/-- The end of a copy (R134, R136). -/
def State.copyEnd (s : State) : State :=
  match s.engine.loaded with
  | some d =>
    let d' := d.afterCopy s.sourceSeq
    let s := s.dropSource
    (s.setEngine { s.engine with loaded := some d', copied := true }).afterCopy d'
  | none => s

/-- A BURST of camera `c` waits for a frame (R136). -/
def State.burstWaits (s : State) (c : CamId) : Bool :=
  s.engine.state == .waitingFrame &&
    match s.engine.loaded with
    | some d => d.cam == some c
    | none => false

/-- Entry of camera `c` into STALE or LOST, or its DISARM, ends a wait for its next frame (R136). -/
def State.burstWaitEnd (s : State) (c : CamId) : State :=
  if s.burstWaits c then s.endRun .stale else s

/-- A completion of camera `c` that appended slot `j` ends a wait with the next copy (R136). -/
def State.burstNextFrame (s : State) (c : CamId) (j : Nat) : State :=
  if s.burstWaits c then
    match s.engine.loaded with
    | some d => s.startCopy c j d
    | none => s
  else s

/-! ### The end of a run (R137 to R140) -/

/-- The outcome of a run on its loaded copy (R138). -/
def Loaded.outcome (d : Loaded) : Loaded :=
  if d.remaining ≠ 0 then d
  else if d.notify then { d with armed := false }
  else { d with enable := false }

/-- A descriptor that finished with notify set joins the held completion list, or raises its entry's
finish count (R140). -/
def heldAdd (held : List HeldDone) (n : DescId) (d : Loaded) : List HeldDone :=
  if held.any (·.desc == n) then
    held.map fun x =>
      if x.desc = n then
        ⟨n, min 255 (x.finishes + 1), d.camera, d.lastSeq, d.nextPlace⟩
      else x
  else held ++ [⟨n, 1, d.camera, d.lastSeq, d.nextPlace⟩]

/-- The write-back beat (R137, R179). -/
def Loaded.writeBack (d : Loaded) : Beat :=
  beatOfFields [(0x00, 1, flagNat d.enable), (0x01, 1, flagNat d.armed),
    (0x10, 2, d.remaining.toNat), (0x14, 2, d.nextPlace.toNat), (0x20, 1, d.lastResult.toNat),
    (0x24, 4, d.lastSeq.toNat), (0x28, 2, d.completions.toNat)]

/-- The byte enables of a write-back: bytes 00h, 01h, 10h, 11h, 14h, 15h, 20h and 24h to 29h (R179). -/
def writeBackEnables : Enables := 0x000003F100330003

/-- The address of descriptor `n`'s record (R123). -/
def State.descAddr (s : State) (n : DescId) : Nat := s.controlBase + 0x4000 + n.val * 64

/-- The trigger copy after a write-back or a merge of its own flags: enable, armed and remaining as
written (R125). -/
def TriggerCopy.written (t : TriggerCopy) (d : Loaded) : TriggerCopy :=
  { t with
    enable := BitVec.ofNat 8 (flagNat d.enable)
    armed := BitVec.ofNat 8 (flagNat d.armed)
    remaining := d.remaining }

/-- The link of a finished run: the target becomes the continuation and is selected, or the link is
refused and the chain ends (R139). -/
def State.followLink (s : State) (target : DescId) : State :=
  let t := s.engine.copyOf target
  if t.enabled = false then
    (s.reportEnded target .linkDisabled t.cameraNat t.remaining 0).chainEnd
  else if t.remaining = 0 then
    (s.reportEnded target .spent t.cameraNat t.remaining 0).chainEnd
  else s.setEngine (Engine.select { s.engine with continuation := some target })

end Sys2Proof.Machine
end

