-- ==== Sys2Proof/Machine/Entrance.lean ====
section
/-!
DEFINITION. The Entrance Line Inputs: filtering and edges (R71 to R75) and the state after resets (R78,
R79).
-/
namespace Sys2Proof.Machine

/-- An edge of a line is formed: the accepted level takes the raw level, the edge count rises and the
edge is handed to the Snapshot Engine (R74, R77). -/
def State.formEdge (s : State) (l : LineId) : State :=
  let x := s.line l
  let s := s.setLine l { x with accepted := x.raw, filterTimer := none, edges := x.edges + 1 }
  s.trigger (.edge l x.raw)

/-- A raw level formed anew is acted on: steps 2 and 3 of R73. -/
def State.filterLine (s : State) (l : LineId) : State :=
  let x := s.line l
  if x.raw = x.accepted then
    s.setLine l { x with
      filterTimer := none
      rejected := if x.filterTimer.isSome then x.rejected + 1 else x.rejected }
  else if x.cfg.filterTime = 0 then s.formEdge l
  else s.setLine l { x with filterTimer := some (timeAfter s.timebase x.cfg.filterTime.toNat) }

/-- A change of the pin level (R73). -/
def State.pinChange (s : State) (l : LineId) (level : Bool) : State :=
  let x := s.line l
  (s.setLine l { x with pin := level, raw := x.cfg.rawOf level }).filterLine l

/-- The raw level formed anew after a polarity change (R75); a merge that leaves the polarity as it was
has no effect. -/
def State.polarityChange (s : State) (l : LineId) (old : LineSettings) : State :=
  let x := s.line l
  if x.cfg.activeLow = old.activeLow then s
  else (s.setLine l { x with raw := x.cfg.rawOf x.pin }).filterLine l

/-- A filter timer runs out: the accepted level takes the raw level, with an edge (R74). -/
def State.filterExpiry (s : State) (l : LineId) : State :=
  let x := s.line l
  if x.raw = x.accepted then s.setLine l { x with filterTimer := none } else s.formEdge l

/-- A line set up at a reset from the pin level given (R78, R79). -/
def State.setUpLine (s : State) (l : LineId) (pin : Bool) : State :=
  let x := s.line l
  let s := s.setLine l { x with
    pin := pin
    raw := x.cfg.rawOf pin
    accepted := false
    filterTimer := none
    edges := 0
    rejected := 0 }
  if (s.line l).raw then s.filterLine l else s

/-- Lines set up at a RESTART, each from its present pin level (R79). -/
def State.setUpLines (s : State) : List LineId → State
  | [] => s
  | l :: rest => (s.setUpLine l (s.line l).pin).setUpLines rest

end Sys2Proof.Machine
end

