-- ==== Sys2Proof/Machine/TileStats.lean ====
section
/-!
DEFINITION. The Tile Statistics Unit: accumulation and per-frame values (R29 to R36).
-/
namespace Sys2Proof.Machine

/-- The luma of pixel `i` of a beat, at its byte 2 × i (R32). -/
def pixelLuma (d : Beat) (i : Nat) : Nat := (beatByte d (2 * i)).toNat

/-- The luma added to tile `t` by the beat whose first pixel is `x0`, in tile row `row` (R32). -/
def lumaAdded (tileW row x0 t : Nat) (d : Beat) : Nat :=
  (((List.range 32).filter fun i => row * 8 + (x0 + i) / tileW == t).map (pixelLuma d)).sum

/-- The differences added to tile `t` by the pairs inside the beat: the pair of pixels `i` and `i + 1`
is counted unless `x0 + i + 1` begins a tile column (R33). -/
def innerDiffs (tileW row x0 t : Nat) (d : Beat) : Nat :=
  (((List.range 31).filter fun i =>
      row * 8 + (x0 + i) / tileW == t && (x0 + i + 1) % tileW != 0).map fun i =>
    absDiff (pixelLuma d i) (pixelLuma d (i + 1))).sum

/-- The difference added to tile `t` by the pair that reaches back over the beat boundary through the
carry (R33). -/
def boundaryDiff (tileW row x0 t carry : Nat) (d : Beat) : Nat :=
  if 0 < x0 ∧ x0 % tileW ≠ 0 ∧ row * 8 + x0 / tileW = t then absDiff carry (pixelLuma d 0) else 0

/-- A beat handed to the unit: its sums and differences are taken, and the carry becomes the luma of
its last pixel (R32, R33). -/
def TileStats.accumulate (u : TileStats) (g : CamGeom) (b : Nat) (d : Beat) : TileStats :=
  let row := b / g.beatsPerLine / g.tileH
  let x0 := b % g.beatsPerLine * 32
  { u with
    sums := u.sums.mapIdx fun t q =>
      { luma := q.luma + lumaAdded g.tileW row x0 t d
        diff := q.diff + innerDiffs g.tileW row x0 t d + boundaryDiff g.tileW row x0 t u.carry d }
    carry := pixelLuma d 31 }

/-- The accumulators cleared at a frame start or a truncation (R31). -/
def TileStats.clearSums (u : TileStats) : TileStats :=
  { u with sums := Vector.replicate 48 TileSum.zero, carry := 0 }

/-- The per-frame values of a completed frame (R35), before their fitness is known. -/
structure FrameValues where
  texture : Vector Nat 48
  mean : Vector Nat 48
  camMean : Nat
  deriving DecidableEq, Repr

/-- The per-frame values formed from the accumulators (R35). -/
def TileStats.values (u : TileStats) (g : CamGeom) : FrameValues where
  texture := u.sums.map fun q => q.diff * 256 / ((g.tileW - 1) * g.tileH)
  mean := u.sums.map fun q => q.luma / (g.tileW * g.tileH)
  camMean := (u.sums.toList.map TileSum.luma).sum / (g.w * g.h)

/-- The last-values record replaced at an evaluated frame (R36). -/
def TileStats.record (u : TileStats) (seq : BitVec 32) (v : FrameValues) (fit : Bool) : TileStats :=
  { u with last := some ⟨seq, v.texture, v.mean, v.camMean, fit⟩ }

/-- An evaluated frame is fit (R40). -/
def CamSettings.fit (c : CamSettings) (v : FrameValues) : Bool :=
  c.darkFloor.toNat ≤ v.camMean && v.camMean ≤ c.brightCeiling.toNat

end Sys2Proof.Machine
end

