-- ==== Sys2Proof/Machine/Lens.lean ====
section
/-!
DEFINITION. The Lens Evaluator: table clearing, activation and holding (R47 to R49), learning (R50,
R51), watching (R52 to R56), the verdict (R57, R58), its requests (R59 to R62) and the events of its
camera (R63 to R67), with eligibility and the evaluate interval (R38 to R41).
-/
namespace Sys2Proof.Machine

/-- The state with camera `c`'s evaluator changed. -/
def State.modEval (s : State) (c : CamId) (f : Evaluator → Evaluator) : State :=
  s.setCam c { s.cam c with eval := f (s.cam c).eval }

/-! ### Table clearing (R47) -/

/-- The dirt tables, level, verdict, learn progress and eligibility count cleared (R47). -/
def Evaluator.clear (e : Evaluator) : Evaluator :=
  { e with
    tiles := Vector.replicate 48 Tile.zero
    level := 0
    verdict := .clean
    learnProgress := 0
    eligible := 0
    relearnCount := none }

/-- A VERDICT report (R47, R58, R174). -/
def State.reportVerdict (s : State) (c : CamId) (old new : Verdict) (level : Nat)
    (seq : BitVec 32) : State :=
  s.report .verdict c.val (word32 old.code new.code level 0) seq

/-- Table clearing of camera `c`: the map count rises, and a VERDICT report follows where the verdict
was not CLEAN (R47, R169). -/
def State.clearTables (s : State) (c : CamId) : State :=
  let x := s.cam c
  let s := s.setCam c { x with eval := x.eval.clear, mapCount := x.mapCount + 1 }
  if x.eval.verdict = .clean then s else s.reportVerdict c x.eval.verdict .clean 0 0

/-! ### Activation and holding (R48, R49) -/

/-- The state activation enters, by mode and channel state (R48). -/
def activated (m : EvMode) (ch : Channel) (keep : Bool) : EvState :=
  match m with
  | .stop => .off
  | .run =>
    match ch with
    | .disarmed => .off
    | .waiting | .live => .learn
    | .stale => .hold false true .learn
    | .lost => if keep then .hold false true .learn else .restartWait
  | .pause =>
    match ch with
    | .disarmed => .off
    | .waiting | .live => .hold true false .learn
    | .stale => .hold true true .learn
    | .lost => if keep then .hold true true .learn else .restartWait

/-- Activation of camera `c`'s evaluator (R48). On a LOST camera it reads the working recovery setting at
the activation (DESIGN CHOICE, log entry 29). The restart count is 0 afterwards (log entry 10). -/
def State.activate (s : State) (c : CamId) : State :=
  let s := s.clearTables c
  let x := s.cam c
  s.modEval c fun e =>
    { e with state := activated e.mode x.chan x.cfg.keep, restartCount := 0 }

/-- The state a resume target names. -/
def Resume.state : Resume → EvState
  | .learn => .learn
  | .watch => .watch

/-- Hold causes added (R49): HOLD is entered from LEARN and WATCH with the state left as resume
target. -/
def EvState.addCauses (st : EvState) (paused stale : Bool) : EvState :=
  match st with
  | .learn => .hold paused stale .learn
  | .watch => .hold paused stale .watch
  | .hold p q r => .hold (p || paused) (q || stale) r
  | st => st

/-- A set of hold causes, or the resume target where the set is empty (R49). -/
def holdOrResume (paused stale : Bool) (r : Resume) : EvState :=
  if paused || stale then .hold paused stale r else r.state

/-- The STALE cause removed (R49). -/
def EvState.removeStale : EvState → EvState
  | .hold p _ r => holdOrResume p false r
  | st => st

/-- The PAUSED cause removed (R49). -/
def EvState.removePaused : EvState → EvState
  | .hold _ q r => holdOrResume false q r
  | st => st

/-- HOLD with the cause PAUSED (R49). -/
def EvState.isPaused : EvState → Bool
  | .hold p _ _ => p
  | _ => false

/-! ### Learning (R50, R51) -/

/-- The baseline step toward a texture value with a shift of 1 to 8 (R51). -/
def baselineStep (b t a : Nat) : Nat :=
  let d : Int := (t : Int) - b
  let q := d.tdiv (2 ^ a)
  let step : Int := if q ≠ 0 then q else if 0 < d then 1 else if d < 0 then -1 else 0
  (b + step).toNat

/-- The baselines of a learning step (R50, step 1). -/
def Evaluator.learnBaselines (e : Evaluator) (shift : Nat) (tex : Vector Nat 48) :
    Vector Tile 48 :=
  e.tiles.mapIdx fun t x =>
    { x with
      baseline :=
        if e.learnProgress = 0 then tex.toList.getD t 0
        else baselineStep x.baseline (tex.toList.getD t 0) shift }

/-- The learning step of a fit frame (R50). -/
def State.learnStep (s : State) (c : CamId) (seq : BitVec 32) (v : FrameValues) : State :=
  let x := s.cam c
  let progress := min 255 (x.eval.learnProgress + 1)
  let done := x.cfg.learnCountUsed ≤ progress
  let s := s.modEval c fun e =>
    { e with
      tiles := e.learnBaselines x.cfg.learnShiftUsed v.texture
      learnProgress := progress
      state := if done then .watch else e.state }
  if done then s.report .learnDone c.val (detail progress 0 0) seq else s

/-! ### Watching (R52 to R56) -/

/-- The raw vote of a tile (R53). -/
def rawVote (cfg : CamSettings) (b t m : Nat) : Bool :=
  (cfg.minTextureUsed ≤ b && t * 16 < b * cfg.dirtRatioUsed) || m < cfg.blockFloor.toNat

/-- A history with a vote shifted in (R54). -/
def History.shift (h : History) (vote : Bool) : History := ⟨h.middle, h.newest, vote⟩

/-- A shifted history corrected: SPIKE 010 is rewritten to 000, DROPOUT 101 to 111 (R54). -/
def History.correct (h : History) (on : Bool) : History :=
  if on then
    if h = ⟨false, true, false⟩ then ⟨false, false, false⟩
    else if h = ⟨true, false, true⟩ then ⟨true, true, true⟩
    else h
  else h

/-- The tile is dirty at this evaluation (R54). -/
def History.dirty (h : History) : Bool := h.middle && h.newest

/-- One tile at a watching step: vote, history, counter, confirmed flag and baseline (R52, steps 1 to
4). -/
def Tile.watch (x : Tile) (cfg : CamSettings) (t m : Nat) : Tile :=
  let vote := rawVote cfg x.baseline t m
  let h := (x.history.shift vote).correct cfg.patternOn
  let n := if h.dirty then min 255 (x.count + 1) else x.count - 1
  { baseline := if vote then x.baseline else baselineStep x.baseline t cfg.watchShiftUsed
    history := h
    count := n
    confirmed := cfg.confirmUsed ≤ n }

/-- The number of confirmed tiles (R55). -/
def confirmedCount (tiles : Vector Tile 48) : Nat := tiles.toList.countP Tile.confirmed

/-- The verdict taken from the level (R57). -/
def nextVerdict (cfg : CamSettings) (old : Verdict) (level : Nat) : Verdict :=
  if old = .dirty then
    if level ≤ cfg.clearUsed then (if level = 0 then .clean else .suspect) else .dirty
  else if cfg.warnUsed ≤ level then .dirty
  else if level = 0 then .clean
  else .suspect

/-- The watching step of a fit frame (R52): tiles, level, verdict, and what a change of verdict brings
(R58). -/
def State.watchStep (s : State) (c : CamId) (seq : BitVec 32) (v : FrameValues) : State :=
  let x := s.cam c
  let tiles := x.eval.tiles.mapIdx fun t q =>
    q.watch x.cfg (v.texture.toList.getD t 0) (v.mean.toList.getD t 0)
  let level := confirmedCount tiles
  let new := nextVerdict x.cfg x.eval.verdict level
  let s := s.modEval c fun e => { e with tiles := tiles, level := level, verdict := new }
  if new = x.eval.verdict then s
  else
    let s := s.reportVerdict c x.eval.verdict new level seq
    if new = .dirty then s.trigger (.dirty c) else s

/-! ### Completions (R38 to R41, R66) -/

/-- An evaluated frame: fitness, the last-values record, and the learning or watching step (R36, R40,
R41). The map count rises by one (R169). -/
def State.evaluate (s : State) (c : CamId) (seq : BitVec 32) (v : FrameValues) : State :=
  let x := s.cam c
  let fit := x.cfg.fit v
  let s := s.setCam c { x with
    stats := x.stats.record seq v fit
    mapCount := x.mapCount + 1
    eval := if fit then x.eval else { x.eval with unfit := satInc x.eval.unfit } }
  if fit then
    match x.eval.state with
    | .learn => s.learnStep c seq v
    | .watch => s.watchStep c seq v
    | _ => s
  else s

/-- The count from which a completion decides whether its frame is due: the eligibility count (R39). Where a
RELEARN falls due together with the completion and was taken first, R68, row 1, has the frame evaluated, as the
count that the RELEARN cleared has it, while R39 and R47 count from 0: `evaluates`, a free value, says which of
the two holds. Two events fall due together where no tick lies between them (DESIGN CHOICE, log entry 31). -/
def Evaluator.countedFrom (e : Evaluator) (evaluates : Bool) : Nat :=
  match e.relearnCount with
  | some n => if evaluates then n else e.eligible
  | none => e.eligible

/-- A completion counted in LEARN or WATCH, and evaluated where it is due (R39; R68, row 1). -/
def State.countEligible (s : State) (c : CamId) (seq : BitVec 32) (v : FrameValues) : State :=
  let x := s.cam c
  if x.cfg.interval ≤ x.eval.countedFrom (Config.relearnEvaluates c.val seq s.timebase) + 1 then
    (s.modEval c fun e => { e with eligible := 0, relearnCount := none }).evaluate c seq v
  else s.modEval c fun e => { e with eligible := e.eligible + 1, relearnCount := none }

/-- The end of a RESTART_WAIT by mode (R66): LEARN entry, which clears the tables (R47), or HOLD. -/
def State.endRestartWait (s : State) (c : CamId) : State :=
  match (s.cam c).eval.mode with
  | .pause =>
    s.modEval c fun e => { e with state := .hold true false .learn, restartCount := 0 }
  | _ => (s.clearTables c).modEval c fun e => { e with state := .learn, restartCount := 0 }

/-- A completion counted in RESTART_WAIT (R66). -/
def State.countRestart (s : State) (c : CamId) : State :=
  let x := s.cam c
  let n := min (x.eval.restartCount + 1) x.cfg.restartDelay.toNat
  let s := s.modEval c fun e => { e with restartCount := n }
  if n = x.cfg.restartDelay.toNat then s.endRestartWait c else s

/-- A completion handed to the evaluator (R39, R41, R66). -/
def State.lensCompletion (s : State) (c : CamId) (seq : BitVec 32) (disordered : Bool)
    (v : FrameValues) : State :=
  match (s.cam c).eval.state with
  | .learn => if disordered then s else s.countEligible c seq v
  | .watch => if disordered then s else s.countEligible c seq v
  | .restartWait => s.countRestart c
  | _ => s

/-! ### Camera events (R63 to R65, R67) -/

/-- The camera enters STALE (R63). -/
def State.lensStale (s : State) (c : CamId) : State :=
  s.modEval c fun e =>
    match e.state with
    | .restartWait => { e with restartCount := 0 }
    | st => { e with state := st.addCauses false true }

/-- The camera enters LIVE (R64). -/
def State.lensLive (s : State) (c : CamId) : State :=
  s.modEval c fun e => { e with state := e.state.removeStale }

/-- The camera enters LOST (R65). -/
def State.lensLost (s : State) (c : CamId) : State :=
  match (s.cam c).eval.state with
  | .off => s
  | .restartWait => s.modEval c fun e => { e with restartCount := 0 }
  | st =>
    if (s.cam c).cfg.keep then s.modEval c fun e => { e with state := st.addCauses false true }
    else (s.clearTables c).modEval c fun e => { e with state := .restartWait, restartCount := 0 }

/-- The evaluator goes OFF with its tables cleared, unless it is OFF (R61, R67). -/
def State.lensOff (s : State) (c : CamId) : State :=
  match (s.cam c).eval.state with
  | .off => s
  | _ => (s.clearTables c).modEval c fun e => { e with state := .off, restartCount := 0 }

/-! ### Requests (R59 to R62) -/

/-- The mode set by a request. -/
def State.setMode (s : State) (c : CamId) (m : EvMode) : State :=
  s.modEval c fun e => { e with mode := m }

/-- EVAL_RUN (R59). -/
def State.takeEvalRun (s : State) (c : CamId) : State :=
  let s := s.setMode c .run
  let s := match (s.cam c).eval.state with
    | .off => if (s.cam c).armed then s.activate c else s
    | _ => s.modEval c fun e => { e with state := e.state.removePaused }
  s.answer (.camera c) .done

/-- EVAL_PAUSE (R60). The next completion is not counted, so that a RELEARN before it is past (log entry 31). -/
def State.takeEvalPause (s : State) (c : CamId) : State :=
  let s := s.setMode c .pause
  let s := match (s.cam c).eval.state with
    | .off => if (s.cam c).armed then s.activate c else s
    | _ => s.modEval c fun e => { e with state := e.state.addCauses true false, relearnCount := none }
  s.answer (.camera c) .done

/-- EVAL_STOP (R61). -/
def State.takeEvalStop (s : State) (c : CamId) : State :=
  ((s.setMode c .stop).lensOff c).answer (.camera c) .done

/-- Learning starts anew in the evaluator state given: the tables are cleared, and the count they stood at is
kept for a completion of the same moment (R62; R68, row 1). With the cause PAUSED no completion is counted, and
none is kept. -/
def State.relearn (s : State) (c : CamId) (st : EvState) : State :=
  let n := (s.cam c).eval.relearnCount.getD (s.cam c).eval.eligible
  (s.clearTables c).modEval c fun e =>
    { e with state := st, relearnCount := if st.isPaused then none else some n }

/-- RELEARN (R62). -/
def State.takeRelearn (s : State) (c : CamId) : State :=
  match (s.cam c).eval.state with
  | .off => s.answer (.camera c) .refusedState
  | .restartWait => s.answer (.camera c) .done
  | .hold p q _ => (s.relearn c (.hold p q .learn)).answer (.camera c) .done
  | _ => (s.relearn c .learn).answer (.camera c) .done

/-- The camera as the present moment ends: a RELEARN of that moment is past (R68; log entry 31). -/
def Camera.momentOver (x : Camera) : Camera :=
  { x with eval := { x.eval with relearnCount := none } }

end Sys2Proof.Machine
end

