-- ==== Sys2Proof/Machine/Intake.lean ====
section
/-!
DEFINITION. The Intake Tracker: liveness (R3 to R6), the intake record and beat handling (R7 to R14),
completion and truncation (R15, R16, R20), reads of the window (R21) and the camera requests ARM,
DISARM, SKIP and RESET (R22 to R26).
-/
namespace Sys2Proof.Machine

/-! ### Timers and channel states (R3 to R5) -/

/-- The camera with its stale and lost timers started (R4). -/
def Camera.startTimers (x : Camera) (now : Time) : Camera :=
  { x with
    lostTimer := some (timeAfter now x.cfg.lostTime)
    staleTimer :=
      if x.cfg.staleTime < x.cfg.lostTime then some (timeAfter now x.cfg.staleTime) else none }

/-- The report of an entry into LIVE, STALE or LOST (R5, R174). -/
def State.reportChannel (s : State) (k : Kind) (c : CamId) (left : Channel) : State :=
  s.report k c.val (detail left.code 0 0) (s.cam c).completed

/-- Entry into LIVE within a completion, from any other state: report and evaluator notice (R3, R5,
R64). A completion in LIVE is no entry. -/
def State.enterLive (s : State) (c : CamId) : State :=
  let x := s.cam c
  if x.chan = .live then s
  else ((s.setCam c { x with chan := .live }).reportChannel .camLive c x.chan).lensLive c

/-- Entry into STALE from LIVE: report, evaluator notice, triggers, and the end of a BURST wait (R3,
R5, R63, R136, R181). -/
def State.enterStale (s : State) (c : CamId) : State :=
  let s := s.setCam c { s.cam c with chan := .stale }
  (((s.reportChannel .camStale c .live).lensStale c).trigger (.stale c)).burstWaitEnd c

/-- Entry into LOST: report, evaluator recovery, and the end of a BURST wait (R3, R5, R65, R136,
R181). -/
def State.enterLost (s : State) (c : CamId) : State :=
  let x := s.cam c
  let s := s.setCam c { x with chan := .lost }
  ((s.reportChannel .camLost c x.chan).lensLost c).burstWaitEnd c

/-- A camera's stale timer runs out (R3, R4). -/
def State.staleExpiry (s : State) (c : CamId) : State :=
  let x := s.cam c
  let s := s.setCam c { x with staleTimer := none }
  if x.chan = .live then s.enterStale c else s

/-- A camera's lost timer runs out; it makes the stale timer idle too (R3, R4). -/
def State.lostExpiry (s : State) (c : CamId) : State :=
  let x := s.cam c
  let s := s.setCam c { x with lostTimer := none, staleTimer := none }
  if x.chan = .waiting ∨ x.chan = .live ∨ x.chan = .stale then s.enterLost c else s

/-! ### Truncation (R16) -/

/-- The causes of R16. -/
inductive TruncCause where
  | gap | restarted | skip | reset | disarm
  deriving DecidableEq, Repr

/-- The code of a truncation cause (11.6). -/
def TruncCause.code : TruncCause → Nat
  | .gap => 0
  | .restarted => 1
  | .skip => 2
  | .reset => 3
  | .disarm => 4

/-- The target slot of a truncated frame: TORN if it is held, FREE otherwise (R16, R17). -/
def Slot.truncate (x : Slot) : Slot :=
  match x.content with
  | .filling q n => Slot.settle { x with content := .torn q n }
  | _ => x

/-- A target slot changed, where the frame has one. -/
def Camera.modTarget (x : Camera) (t : Option Nat) (f : Slot → Slot) : Camera :=
  match t with
  | some j => x.modSlot j f
  | none => x

/-- A frame in progress truncated, with all the effects of R16; nothing where there is none. -/
def State.truncate (s : State) (c : CamId) (cause : TruncCause) : State :=
  let x := s.cam c
  match x.intake with
  | none => s
  | some r =>
    let x := x.modTarget r.target Slot.truncate
    let s := s.setCam c { x with
      truncated := x.truncated + 1
      intake := none
      gapTimer := none
      stats := x.stats.clearSums }
    s.report .frameTruncated c.val (detail cause.code (flagNat r.target.isNone) r.linesDone) r.seq

/-- A camera's gap timer runs out (R14). -/
def State.gapExpiry (s : State) (c : CamId) : State :=
  let s := s.setCam c { s.cam c with gapTimer := none }
  s.truncate c .gap

/-! ### Frame starts (R9 to R11, R20) -/

/-- The sequence of a new frame (R20). -/
def Camera.nextSeq (x : Camera) : BitVec 32 :=
  let n := x.completed + x.truncated + 1
  if n = 0 then 1 else n

/-- A DROP_BEGIN report (R11, R174). -/
def State.reportDrop (s : State) (c : CamId) (seq : BitVec 32) : State :=
  s.report .dropBegin c.val (detail (s.cam c).ready.length 0 0) seq

/-- The slot of a new frame taken: FILLING, off the ready list (R9, step 2; R10). -/
def Camera.takeSlot (x : Camera) (t : Option Nat) (seq : BitVec 32) : Camera :=
  match t with
  | some j =>
    { x.modSlot j (fun q => { q with content := .filling seq 0 }) with ready := x.ready.erase j }
  | none => x

/-- A frame start, whether or not a frame is in progress (R9). -/
def State.frameStart (s : State) (c : CamId) : State :=
  let s := s.truncate c .restarted
  let x := s.cam c
  let t := x.chooseSlot
  let seq := x.nextSeq
  let s := s.setCam c { x.takeSlot t seq with
    started := x.started + 1
    dropRun := t.isNone
    intake := some ⟨0, 0, t, false, seq, s.timebase⟩
    stats := x.stats.clearSums }
  if t.isNone ∧ x.dropRun = false then s.reportDrop c seq else s

/-! ### Completion (R15, R41, R180) -/

/-- A FILLING slot completed (R15). -/
def Slot.complete (x : Slot) (now : Time) : Slot :=
  match x.content with
  | .filling q _ => { x with content := .ready q now }
  | _ => x

/-- The camera's own part of a completion: slot and ready list, counters, timers, record (R15). -/
def Camera.complete (x : Camera) (r : IntakeRec) (now : Time) : Camera :=
  let y := x.modTarget r.target (·.complete now)
  Camera.startTimers
    { y with
      ready := y.ready ++ r.target.toList
      completed := y.completed + 1
      dropped := if r.target.isNone then y.dropped + 1 else y.dropped
      intake := none
      gapTimer := none } now

/-- A frame completes (R15): slot, counters and timers; the fallbacks of sets that show it (R96); the
channel state (R3); the statistics and the evaluator (R41); a BURST that waits for the slot (R136). -/
def State.frameCompletion (s : State) (c : CamId) (r : IntakeRec) : State :=
  let x := s.cam c
  let values := x.stats.values x.geom
  let s := s.setCam c (x.complete r s.timebase)
  let s := match r.target with
    | some j => s.releaseFallbacks c j allSets
    | none => s
  let s := (s.enterLive c).lensCompletion c r.seq r.disordered values
  match r.target with
  | some j => s.burstNextFrame c j
  | none => s

/-! ### Beats of a frame (R8, R12 to R14) -/

/-- The lines done carried by the target slot (R13). -/
def Slot.setLines (x : Slot) (n : Nat) : Slot :=
  match x.content with
  | .filling q _ => { x with content := .filling q n }
  | _ => x

/-- A beat is in order: at the cursor and with all its byte enables set (R12, step 2). -/
def IntakeRec.inOrder (r : IntakeRec) (b : Nat) (en : Enables) : Bool :=
  b == r.cursor && en == BitVec.allOnes 64

/-- The intake record after a beat (R12, steps 2 and 3; R13). -/
def IntakeRec.afterBeat (r : IntakeRec) (g : CamGeom) (b : Nat) (en : Enables) (now : Time) :
    IntakeRec :=
  if r.inOrder b en then
    { r with
      cursor := r.cursor + 1
      linesDone := if r.disordered then r.linesDone else (r.cursor + 1) / g.beatsPerLine
      lastBeat := now }
  else { r with disordered := true, lastBeat := now }

/-- The camera after a beat of the frame in progress: record, slot, statistics and gap timer (R12, R13,
R14, R32). -/
def Camera.afterBeat (x : Camera) (r : IntakeRec) (b : Nat) (d : Beat) (en : Enables)
    (now : Time) : Camera :=
  let q := r.afterBeat x.geom b en now
  let y := x.modTarget r.target (·.setLines q.linesDone)
  { y with
    intake := some q
    stats := if r.inOrder b en then x.stats.accumulate x.geom b d else x.stats
    gapTimer := some (timeAfter now x.cfg.gapLimit) }

/-- A beat stored in the target slot: handed to the INTAKE queue at the slot's address (R12, step 1). -/
def State.storeBeat (s : State) (c : CamId) (t : Option Nat) (b : Nat) (d : Beat) (en : Enables) :
    State :=
  match t with
  | some j => s.hand .intake ((s.cam c).geom.slotAddr j + b * 64) (.write d en)
  | none => s

/-- A beat taken as a beat of the frame in progress (R12). -/
def State.frameBeat (s : State) (c : CamId) (b : Nat) (d : Beat) (en : Enables) : State :=
  match (s.cam c).intake with
  | none => s
  | some r =>
    let x := s.cam c
    let s := s.storeBeat c r.target b d en
    let s := s.setCam c (x.afterBeat r b d en s.timebase)
    if b + 1 = x.geom.frameBeats then
      s.frameCompletion c (r.afterBeat x.geom b en s.timebase)
    else s

/-- The index of a beat in camera `c`'s intake window (R8). -/
def State.intakeIndex (s : State) (c : CamId) (a : Nat) : Nat :=
  (a - (s.cam c).geom.intakeBase) / 64

/-- A write beat in the intake window of an armed camera: the first matching line of R8's table. -/
def State.intakeWrite (s : State) (c : CamId) (a : Nat) (d : Beat) (en : Enables) : State :=
  let b := s.intakeIndex c a
  if (s.cam c).geom.frameBeats ≤ b then s
  else if b = 0 then (s.frameStart c).frameBeat c 0 d en
  else s.frameBeat c b d en

/-- The write beat will be stored, and so needs a place in the INTAKE queue (R12, R158). -/
def State.intakeStores (s : State) (c : CamId) (a : Nat) : Bool :=
  let b := s.intakeIndex c a
  if (s.cam c).geom.frameBeats ≤ b then false
  else
    let x := if b = 0 then (s.frameStart c).cam c else s.cam c
    match x.intake with
    | some r => r.target.isSome
    | none => false

/-- The slot that answers a read of the intake window: the target of a frame that is not dropping, else
the newest READY slot, else none (R21). -/
def Camera.readSlot (x : Camera) : Option Nat :=
  match x.intake with
  | some r =>
    match r.target with
    | some j => some j
    | none => x.newest
  | none => x.newest

/-- A read beat in the intake window of an armed camera: zeros, or a slot read handed to the INTAKE
queue (R21). -/
def State.intakeRead (s : State) (c : CamId) (p : PortTag) (a : Nat) : State :=
  let x := s.cam c
  match x.readSlot with
  | none => s.answerRead p zeroBeat
  | some j =>
    let r := s.port.place p
    (s.expectRead p).hand .intake (x.geom.slotAddr j + (a - x.geom.intakeBase)) (.read (.intake r))

/-! ### Camera requests (R22 to R26, R67) -/

/-- The camera as an ARM leaves it, before its timers start and its evaluator is activated (R23, R30,
R39, R40). -/
def Camera.arm (x : Camera) : Camera :=
  { x with
    geom := x.cfg.geom
    slots := List.replicate x.cfg.geom.k Slot.empty
    ready := []
    started := 0
    completed := 0
    truncated := 0
    dropped := 0
    intake := none
    dropRun := false
    chan := .waiting
    gapTimer := none
    stats := TileStats.zero
    eval := { x.eval with eligible := 0, unfit := 0 } }

/-- A successful ARM (R23, R48, R67, R169). -/
def State.armCamera (s : State) (c : CamId) : State :=
  let s := s.setCam c ((s.cam c).arm.startTimers s.timebase)
  let s := s.activate c
  s.setCam c { s.cam c with mapCount := 0 }

/-- The result of ARM (R22, R23, R152). -/
def State.armResult (s : State) (c : CamId) : Result :=
  let x := s.cam c
  if x.armed then .refusedState
  else if x.cfg.geom.valid = false then .geometry
  else if s.armOverlaps c x.cfg.geom then .overlap
  else if x.anyHeld then .busy
  else .done

/-- ARM (R22, R23). -/
def State.takeArm (s : State) (c : CamId) : State :=
  let r := s.armResult c
  (if r = .done then s.armCamera c else s).answer (.camera c) r

/-- DISARM performed on an armed camera (R24, R67, R136, R181). -/
def State.disarmCamera (s : State) (c : CamId) : State :=
  let s := s.truncate c .disarm
  let s := s.setCam c { s.cam c with staleTimer := none, lostTimer := none, chan := .disarmed }
  (s.lensOff c).burstWaitEnd c

/-- DISARM (R22, R24). -/
def State.takeDisarm (s : State) (c : CamId) : State :=
  (if (s.cam c).armed then s.disarmCamera c else s).answer (.camera c) .done

/-- SKIP (R22, R25). -/
def State.takeSkip (s : State) (c : CamId) : State :=
  if (s.cam c).armed then (s.truncate c .skip).answer (.camera c) .done
  else s.answer (.camera c) .refusedState

/-- RESET performed on an armed camera (R26, R67). -/
def State.resetCamera (s : State) (c : CamId) : State :=
  let s := s.truncate c .reset
  let s := s.setCam c
    (Camera.startTimers { s.cam c with chan := .waiting, dropRun := false } s.timebase)
  s.activate c

/-- RESET (R22, R26). -/
def State.takeReset (s : State) (c : CamId) : State :=
  if (s.cam c).armed then (s.resetCamera c).answer (.camera c) .done
  else s.answer (.camera c) .refusedState

end Sys2Proof.Machine
end

