-- ==== Sys2Proof/Machine/Restart.lean ====
section
/-!
DEFINITION. RESTART performed (R166, R167, and the rule of each block: R28, R42, R70, R79, R102, R121,
R148, R169 to R171), and power-on reset (R162).
-/
namespace Sys2Proof.Machine

/-! ### Each block at a RESTART (R167) -/

/-- A camera at a RESTART: the values of R27, R30 and R70, its settings kept, its effective geometry
taken from them, its slot table rebuilt (R28, R42, R70, R169). -/
def Camera.restart (x : Camera) : Camera :=
  { Camera.powerOn with
    cfg := x.cfg
    geom := x.cfg.restartGeom
    slots := List.replicate x.cfg.restartGeom.k Slot.empty }

/-- A screen at a RESTART: the values of R101 and R103, its settings kept, its effective geometry taken
from them, its sync level that of the input (R102, R121; log entry 12). -/
def Screen.restart (x : Screen) : Screen :=
  { Screen.powerOn x.sync with
    cfg := x.cfg
    geom := x.cfg.restartGeom }

/-- The engine at a RESTART: the values of R147, its trigger copies and owed ARM writes kept (R148,
R128). The run number rises, so that a read of an abandoned run is told from one of a later run. -/
def Engine.restart (e : Engine) : Engine :=
  { Engine.powerOn with
    copies := e.copies
    armOwed := e.armOwed
    run := e.run + 1 }

/-- The Report Writer at a RESTART: the values of reset, the interrupt enable kept (R171). -/
def Ring.restart (r : Ring) : Ring := { Ring.powerOn with intEnable := r.intEnable }

/-- A screen's pending COMMIT dropped: its request ends REFUSED_STATE (R102, R167). -/
def State.dropCommit (s : State) (sc : ScrId) (x : Screen) : State :=
  if x.pendingCommit.isSome then s.answerEnd (.screen sc) .refusedState else s

/-- The response beat of a table entry completed at a RESTART: background for every macropixel not yet
formed, the set's own background where it has a set, the working one while it waits (R121). -/
def Screen.restartBeat (x : Screen) (e : Entry) : Beat :=
  match e.state with
  | .waiting => uniformBeat x.cfg.background
  | .fetching r plan _ =>
    planResponse (match x.setOf r with
      | some hs => hs.background
      | none => x.cfg.background) plan

/-- The entries of a screen as it stood before a RESTART answered; `before` are the sideband flags of
that moment (R121; log entry 17). -/
def State.restartEntries (s : State) (before : SideFlags) (x : Screen) : List Entry → State
  | [] => s
  | e :: rest =>
    (s.formReadWith e.resp (x.restartBeat e)
      (if Config.restartFlagsBefore e.id then before else s.sideFlags)).restartEntries before x rest

/-- The screens of the state before a RESTART: each one's pending COMMIT dropped and its table entries
answered. -/
def State.restartScreens (s old : State) : List ScrId → State
  | [] => s
  | sc :: rest =>
    let x := old.screen sc
    ((s.dropCommit sc x).restartEntries old.sideFlags x x.table).restartScreens old rest

/-- Every block at its value for RESTART (R167); settings, Timebase, straps, queues and DRAM kept. -/
def State.restartBlocks (s : State) : State :=
  { s with
    cams := s.cams.map Camera.restart
    screens := s.screens.map Screen.restart
    fetchWait := []
    engine := s.engine.restart
    ring := s.ring.restart
    attention := Attention.clear }

/-- A RESTART performed (R167): the blocks are reset; the lines are set up after the engine, so that
the edges of lines with filter time 0 reach its new pending set (R79); the reads of the composition
tables are answered (R121). -/
def State.restartAll (s : State) : State :=
  (s.restartBlocks.setUpLines allLines).restartScreens s allScreens

/-! ### Power-on reset (R162) -/

/-- Lines set up at a power-on reset from the levels of their inputs (R78). -/
def State.powerOnLines (s : State) (pins : Vector Bool 4) : List LineId → State
  | [] => s
  | l :: rest => (s.setUpLine l pins[l]).powerOnLines pins rest

/-- The part after a power-on reset with the straps and input levels given. DRAM is as it was (R27);
requests, queued beats and reads in flight are gone (log entry 20). The commands that wait, the log of
responses returned and the model's own counters stay. -/
def State.powerOn (s : State) (straps : Straps) (pins : Pins) : State :=
  State.powerOnLines
    { s with
      timebase := 0
      strapBase := straps.base
      strapMhz := straps.mhz
      cams := Vector.replicate 6 Camera.powerOn
      lines := Vector.replicate 4 Line.powerOnLow
      screens := pins.sync.map Screen.powerOn
      fetchWait := []
      engine := Engine.powerOn
      part := ⟨0, 0⟩
      ring := Ring.powerOn
      attention := Attention.clear
      words := Words.powerOn
      port := { s.port with waiting := [], held := [] }
      arb := Arbiter.powerOn
      reads := [] }
    pins.entrance allLines

end Sys2Proof.Machine
end

