-- ==== Sys2Proof/Machine/SnapshotSteps.lean ====
section
/-!
DEFINITION. The requests of the Snapshot Engine (R127, R128, R142 to R144) and the steps of a run at
the Memory Port Arbiter: load, copy reads and writes, write-back, ARM writes (R132 to R139, R128).
-/
namespace Sys2Proof.Machine

/-! ### Requests (R127, R128, R142 to R144) -/

/-- The descriptor a request names: the low four bits of its index (R127, R128). -/
def State.indexDesc (s : State) : DescId :=
  ⟨s.words.engine.index.toNat % 16, Nat.mod_lt _ (by decide)⟩

/-- ENGINE_ENABLE (R143). -/
def State.takeEngineEnable (s : State) : State :=
  let e := { s.engine with enable := true }
  (s.setEngine (if e.state = .disabled then Engine.select { e with state := .idle } else e)).answer
    .engine .done

/-- ENGINE_DISABLE (R143). -/
def State.takeEngineDisable (s : State) : State :=
  let e := { s.engine with enable := false }
  (s.setEngine (if e.state = .idle then { e with state := .disabled } else e)).answer .engine .done

/-- START(n) (R127, R131). -/
def State.takeStart (s : State) : State :=
  let n := s.indexDesc
  if (s.engine.copyOf n).enabled then
    (s.setEngine (s.engine.add n).wake).answer .engine .done
  else s.answer .engine .disabled

/-- The engine after ARM(n) on an enabled descriptor (R128): the trigger copy's armed field is set;
while `n` runs the loaded copy takes armed too, remembered for a load that is still out (log entry 15);
else an ARM write is owed. -/
def Engine.arm (e : Engine) (n : DescId) : Engine :=
  let e := e.setCopy n { e.copyOf n with armed := 1 }
  if e.running = some n then
    match e.loaded with
    | some d => { e with loaded := some { d with armed := true } }
    | none => { e with armLate := true }
  else { e with armOwed := e.armOwed ||| descBit n }

/-- ARM(n) (R128). -/
def State.takeSnapshotArm (s : State) : State :=
  let n := s.indexDesc
  if (s.engine.copyOf n).enabled then (s.setEngine (s.engine.arm n)).answer .engine .done
  else s.answer .engine .disabled

/-- The loaded copy's last result set to ABORTED (R142). -/
def Engine.markAborted (e : Engine) : Engine :=
  { e with loaded := e.loaded.map fun d => { d with lastResult := 6 } }

/-- A run in progress ended early for the reason given, by its state (R142, R148). -/
def State.endEarly (s : State) (why : Ending) : State :=
  match s.engine.state with
  | .loading => s.setEngine { s.engine with ending := why }
  | .copying => (s.setEngine { s.engine.markAborted with ending := why }).settleAbort
  | .waitingFrame => (s.setEngine { s.engine.markAborted with ending := why }).storeAborted
  | _ => s

/-- ABORT on a run (R142). A run that is ending already, by ABORT or by a RESTART that waits, is left
(R142, R166). In STORING the write-back goes on and the chain ends with it. -/
def State.abortRun (s : State) : State :=
  if s.restartOpen ∨ s.engine.ending ≠ .none then s
  else if s.engine.state = .storing then s.setEngine { s.engine with cut := true }
  else s.endEarly .abort

/-- ABORT (R142, R144). -/
def State.takeAbort (s : State) : State :=
  if s.engine.state = .disabled ∨ s.engine.state = .idle then s.answer .engine .refusedState
  else s.abortRun.answer .engine .done

/-! ### The load (R132, R133) -/

/-- The descriptor load can be handed: LOADING, not handed, no ARM write of the descriptor owed, and a
place in the DESC queue (R128, R132, R158). -/
def State.loadReady (s : State) (n : DescId) : Bool :=
  s.engine.state == .loading && !s.engine.loadHanded && !s.engine.armOwed.getLsbD n.val
    && s.room .desc

/-- The descriptor load handed (R132). -/
def State.stepLoad (s : State) : State :=
  match s.engine.running with
  | some n =>
    if s.loadReady n then
      (s.hand .desc (s.descAddr n) (.read (.load s.engine.run))).setEngine
        { s.engine with loadHanded := true }
    else s
  | none => s

/-- The loaded copy of the bytes returned, armed if ARM(n) was taken while the load was out. -/
def Engine.loadedFrom (e : Engine) (d : Beat) : Loaded :=
  let x := loadedOf d
  if e.armLate then { x with armed := true } else x

/-- The descriptor read returns: the loaded copy is checked, or, for a run that is ending, goes to
STORING unchecked (R133, R142, R148). A read of an abandoned run is discarded (R148). -/
def State.loadReturn (s : State) (run : Nat) (d : Beat) : State :=
  if s.engine.state = .loading ∧ s.engine.loadHanded = true ∧ s.engine.run = run then
    let x := s.engine.loadedFrom d
    let s := s.setEngine { s.engine with loaded := some x }
    if s.engine.ending = .none then s.checkLoaded x
    else (s.setEngine s.engine.markAborted).storeAborted
  else s

/-! ### The copy (R134, R135) -/

/-- The next source read handed (R134, R135). -/
def State.stepCopyRead (s : State) : State :=
  match s.engine.copy with
  | some k =>
    if s.engine.state = .copying ∧ s.engine.ending = .none ∧ k.readsSent < k.totalReads
        ∧ s.room .copy = true then
      (s.hand .copy (k.readAddr k.readsSent) (.read (.copy s.engine.run))).setEngine
        { s.engine with copy := some { k with readsSent := k.readsSent + 1 } }
    else s
  | none => s

/-- The copy after its next source read has returned. -/
def CopyRun.readBack (k : CopyRun) (d : Beat) : CopyRun :=
  { k with buffer := k.buffer ++ k.keep k.readsBack d, readsBack := k.readsBack + 1 }

/-- A source read returns: the bytes of the rectangle join those waiting to be written (R134, R135). A
read of an abandoned run is discarded (R148). -/
def State.copyReadBack (s : State) (run : Nat) (d : Beat) : State :=
  match s.engine.copy with
  | some k =>
    if s.engine.state = .copying ∧ s.engine.run = run then
      (s.setEngine { s.engine with copy := some (k.readBack d) }).settleAbort
    else s
  | none => s

/-- The bytes of the next destination beat (R135). -/
def CopyRun.writeData (k : CopyRun) : Beat := Vector.ofFn fun i => (k.buffer.take k.nextBytes).getD i 0

/-- The byte enables of the next destination beat: the place bytes it holds (R135). -/
def CopyRun.writeEnables (k : CopyRun) : Enables :=
  BitVec.allOnes 64 >>> (64 - k.nextBytes)

/-- The copy after the next destination beat has been handed. -/
def CopyRun.wrote (k : CopyRun) : CopyRun :=
  { k with buffer := k.buffer.drop k.nextBytes, written := k.written + 1 }

/-- The next destination write handed; the last one ends the copy (R134, R135). While the run is being
ended early the writes of the reads already returned still go, and count for nothing (R142). -/
def State.stepCopyWrite (s : State) : State :=
  match s.engine.copy with
  | some k =>
    if s.engine.state = .copying ∧ k.writeReady = true ∧ s.room .copy = true then
      let s := (s.hand .copy (k.placeAddr + k.written * 64)
        (.write k.writeData k.writeEnables)).setEngine { s.engine with copy := some k.wrote }
      if s.engine.ending ≠ .none then s.settleAbort
      else if k.wrote.written = k.totalWrites then s.copyEnd
      else s
    else s
  | none => s

/-! ### The write-back (R137 to R139, R148) -/

/-- The run has an outcome: it copied, and was not ended early (R138). -/
def Engine.hasOutcome (e : Engine) : Bool := e.copied && e.ending == .none

/-- The loaded copy as STORING leaves it (R138). -/
def Engine.stored (e : Engine) (d : Loaded) : Loaded := if e.hasOutcome then d.outcome else d

/-- The held completion list after the write-back (R138, R140). -/
def Engine.heldAfter (e : Engine) (n : DescId) (d : Loaded) : List HeldDone :=
  if e.hasOutcome ∧ d.remaining = 0 ∧ d.notify = true then heldAdd e.held n d else e.held

/-- The run is followed by its link (R139, R142): it copied, wrote no SNAP_ENDED, was not cut short, and
has link enable set. -/
def Engine.follows (e : Engine) (d : Loaded) : Bool :=
  e.copied && !e.ended && !e.cut && e.ending == .none && d.link

/-- The engine at the handing of the write-back, before the chain is settled (R137). -/
def Engine.writtenBack (e : Engine) (n : DescId) (d : Loaded) : Engine :=
  { e.setCopy n ((e.copyOf n).written (e.stored d)) with
    held := e.heldAfter n (e.stored d)
    loaded := none
    running := none }

/-- The write-back handed, and the run settled: a RESTART that waits is performed, or the link followed,
or the chain ended (R137 to R140, R148, R166). -/
def State.stepWriteBack (s : State) : State :=
  match s.engine.running, s.engine.loaded with
  | some n, some d =>
    if s.engine.state = .storing ∧ s.room .desc = true then
      let e := s.engine
      let s := (s.hand .desc (s.descAddr n) (.write (e.stored d).writeBack writeBackEnables)).setEngine
        (e.writtenBack n d)
      if s.restartOpen then s.restartAll.answerEnd .part .done
      else if e.follows d then s.followLink d.target
      else s.chainEnd
    else s
  | _, _ => s

/-! ### ARM writes (R128) -/

/-- The lowest descriptor whose ARM write is owed. -/
def Engine.firstOwed (e : Engine) : Option DescId := allDescs.find? fun n => e.armOwed.getLsbD n.val

/-- The beat of an ARM write: armed set (R128, R179). -/
def armBeat : Beat := beatOfFields [(0x01, 1, 1)]

/-- The byte enable of an ARM write: byte 01h alone (R179). -/
def armEnables : Enables := 0x2

/-- An owed ARM write handed, lowest index first (R128). -/
def State.stepArmWrite (s : State) : State :=
  match s.engine.firstOwed with
  | some n =>
    if s.room .desc then
      (s.hand .desc (s.descAddr n) (.write armBeat armEnables)).setEngine
        { s.engine with armOwed := s.engine.armOwed &&& ~~~(descBit n) }
    else s
  | none => s

end Sys2Proof.Machine
end

