-- ==== Sys2Proof/Machine/Requests.lean ====
section
/-!
DEFINITION. Requests of the live page: which request a code names (R163, R164, 11.6) and RESTART
(R166).
-/
namespace Sys2Proof.Machine

/-- The engine runs a descriptor: it is neither DISABLED nor IDLE. -/
def Engine.busy (e : Engine) : Bool := e.state != .disabled && e.state != .idle

/-- RESTART, by the wait-idle flag and the engine (R166): BUSY while one is open; IN_PROGRESS with the
run ended where it waits; else performed and answered DONE. The wait-idle flag is the word's index
(R164; log entry 16). -/
def State.takeRestart (s : State) : State :=
  if s.restartOpen then s.answer .part .busy
  else if s.words.part.index ≠ 0 ∧ s.engine.busy = true then
    (s.answerOpen .part).endEarly .restart
  else s.restartAll.answer .part .done

/-- The part's request word (R164). -/
def State.partRequest (s : State) (code : Byte) : State :=
  if code = 1 then s.takeRestart else s.answer .part .unknownCode

/-- A camera's request word (R164). -/
def State.cameraRequest (s : State) (c : CamId) (code : Byte) : State :=
  if code = 1 then s.takeArm c
  else if code = 2 then s.takeDisarm c
  else if code = 3 then s.takeSkip c
  else if code = 4 then s.takeReset c
  else if code = 5 then s.takeEvalRun c
  else if code = 6 then s.takeEvalPause c
  else if code = 7 then s.takeEvalStop c
  else if code = 8 then s.takeRelearn c
  else s.answer (.camera c) .unknownCode

/-- A screen's request word (R164). -/
def State.screenRequest (s : State) (sc : ScrId) (code : Byte) : State :=
  if code = 1 then s.takeEnable sc
  else if code = 2 then s.takeDisable sc
  else if code = 3 then s.takeCommit sc
  else s.answer (.screen sc) .unknownCode

/-- The engine's request word (R164). -/
def State.engineRequest (s : State) (code : Byte) : State :=
  if code = 1 then s.takeEngineEnable
  else if code = 2 then s.takeEngineDisable
  else if code = 3 then s.takeStart
  else if code = 4 then s.takeSnapshotArm
  else if code = 5 then s.takeAbort
  else s.answer .engine .unknownCode

/-- The owner acts on the request its word now holds (R163, step 3). -/
def State.ownerRequest (s : State) (o : Owner) (code : Byte) : State :=
  match o with
  | .part => s.partRequest code
  | .camera c => s.cameraRequest c code
  | .screen sc => s.screenRequest sc code
  | .engine => s.engineRequest code

/-- A request word written with its code byte enabled (R163): a code of 0 takes no request and changes
nothing; any other is taken. -/
def State.takeRequest (s : State) (o : Owner) (code : Byte) (f : ReqFields) : State :=
  if code = 0 then s
  else (s.setMailbox o ((s.mailbox o).take code f)).ownerRequest o code

end Sys2Proof.Machine
end

