-- ==== Sys2Proof/Machine/Merge.lean ====
section
/-!
DEFINITION. The merge of setting writes and its locks (R154, R155), by the layout of the config page
(11.2), and the merge of descriptor writes into the trigger copies (R125, 11.3).
-/
namespace Sys2Proof.Machine

/-! ### Bytes of the records (11.2) -/

/-- A byte of the camera record. -/
def CamSettings.mergeByte (c : CamSettings) (i : Nat) (b : Byte) : CamSettings :=
  if i < 0x08 then { c with intakeBase := putByte c.intakeBase i b }
  else if i < 0x10 then { c with slotBase := putByte c.slotBase (i - 0x08) b }
  else if i < 0x12 then { c with w := putByte c.w (i - 0x10) b }
  else if i < 0x14 then { c with h := putByte c.h (i - 0x12) b }
  else if i = 0x14 then { c with k := b }
  else if i = 0x15 then { c with staleFactor := b }
  else if i = 0x16 then { c with lostExponent := b }
  else if i = 0x17 then { c with gapRelax := b }
  else if i < 0x1C then { c with period := putByte c.period (i - 0x18) b }
  else if i < 0x1E then { c with gapTime := putByte c.gapTime (i - 0x1C) b }
  else if i < 0x20 then { c with earlyLines := putByte c.earlyLines (i - 0x1E) b }
  else if i = 0x20 then { c with evalInterval := b }
  else if i = 0x21 then { c with darkFloor := b }
  else if i = 0x22 then { c with brightCeiling := b }
  else if i = 0x23 then { c with learnCount := b }
  else if i = 0x24 then { c with learnShift := b }
  else if i = 0x25 then { c with watchShift := b }
  else if i = 0x26 then { c with dirtRatio := b }
  else if i = 0x27 then { c with blockFloor := b }
  else if i < 0x2A then { c with minTexture := putByte c.minTexture (i - 0x28) b }
  else if i = 0x2A then { c with confirmCount := b }
  else if i = 0x2B then { c with warnTiles := b }
  else if i = 0x2C then { c with clearTiles := b }
  else if i = 0x2D then { c with restartDelay := b }
  else if i = 0x2E then { c with pattern := b }
  else if i = 0x2F then { c with recovery := b }
  else c

/-- A byte of the camera record that is locked while the camera is armed (R155, 11.2). -/
def camLocked (i : Nat) : Bool := i ≤ 0x14

/-- A byte of a pane entry. -/
def Pane.mergeByte (p : Pane) (i : Nat) (b : Byte) : Pane :=
  if i = 0 then { p with camera := b }
  else if i = 1 then { p with hdec := b }
  else if i = 2 then { p with vdec := b }
  else if i = 3 then { p with flags := b }
  else if i < 6 then { p with x := putByte p.x (i - 4) b }
  else if i < 8 then { p with y := putByte p.y (i - 6) b }
  else if i < 10 then { p with width := putByte p.width (i - 8) b }
  else if i < 12 then { p with height := putByte p.height (i - 10) b }
  else if i < 14 then { p with srcX := putByte p.srcX (i - 12) b }
  else { p with srcY := putByte p.srcY (i - 14) b }

/-- A byte of a layout record: the pane count, or a byte of one of the eight entries. -/
def Layout.mergeByte (l : Layout) (i : Nat) (b : Byte) : Layout :=
  if i = 0 then { l with count := b }
  else if 0x10 ≤ i ∧ i < 0x90 then
    { l with panes := l.panes.mapIdx fun n p =>
        if n = (i - 0x10) / 0x10 then p.mergeByte (i % 0x10) b else p }
  else l

/-- A byte of the five layout records of a screen: the normal layout first, then the entrance layouts,
one in each 100h bytes. -/
def Layouts.mergeByte (ls : Layouts) (i : Nat) (b : Byte) : Layouts :=
  if i < 0x100 then { ls with normal := ls.normal.mergeByte i b }
  else
    { ls with entrance := ls.entrance.mapIdx fun n l =>
        if n + 1 = i / 0x100 then l.mergeByte (i % 0x100) b else l }

/-- A byte of the screen record. -/
def ScrSettings.mergeByte (c : ScrSettings) (i : Nat) (b : Byte) : ScrSettings :=
  if i < 0x08 then { c with base := putByte c.base i b }
  else if i < 0x0A then { c with ws := putByte c.ws (i - 0x08) b }
  else if i < 0x0C then { c with hs := putByte c.hs (i - 0x0A) b }
  else if i = 0x0C then { c with latchMode := b }
  else if i = 0x0D then { c with syncEdge := b }
  else if i < 0x10 then { c with offsetTime := putByte c.offsetTime (i - 0x0E) b }
  else if i < 0x14 then { c with cyclePeriod := putByte c.cyclePeriod (i - 0x10) b }
  else if i = 0x14 then { c with border := b }
  else if i < 0x18 then c
  else if i < 0x1C then { c with background := c.background.setByte (i - 0x18) b }
  else if i < 0x20 then { c with lost := c.lost.setByte (i - 0x1C) b }
  else if i < 0x24 then { c with stale := c.stale.setByte (i - 0x20) b }
  else if i < 0x28 then { c with warn := c.warn.setByte (i - 0x24) b }
  else if i < 0x100 then c
  else { c with staged := c.staged.mergeByte (i - 0x100) b }

/-- A byte of the screen record that is locked while the screen is enabled (R155, 11.2). -/
def scrLocked (i : Nat) : Bool := i ≤ 0x0C

/-- A byte of the entrance line record. -/
def LineSettings.mergeByte (c : LineSettings) (i : Nat) (b : Byte) : LineSettings :=
  if i = 0 then { c with polarity := b }
  else if i = 2 ∨ i = 3 then { c with filterTime := putByte c.filterTime (i - 2) b }
  else c

/-- A byte of the part settings record. -/
def PartSettings.mergeByte (c : PartSettings) (i : Nat) (b : Byte) : PartSettings :=
  if i < 2 then { c with masks := putByte c.masks i b }
  else if i = 2 then { c with intEnable := b }
  else c

/-! ### The config page (11.2, R154, R155) -/

/-- The record an offset of the config page lies in, with the offset inside it. -/
inductive SettingRef where
  | part (i : Nat)
  | camera (c : CamId) (i : Nat)
  | screen (sc : ScrId) (i : Nat)
  | line (l : LineId) (i : Nat)
  | none
  deriving DecidableEq, Repr

/-- Where an offset of the config page lies. -/
def settingAt (o : Nat) : SettingRef :=
  if o < 0x100 then .part o
  else if o < 0x700 then .camera ⟨(o - 0x100) / 0x100 % 6, Nat.mod_lt _ (by decide)⟩ (o % 0x100)
  else if 0x1000 ≤ o ∧ o < 0x2800 then
    .screen ⟨(o - 0x1000) / 0x800 % 3, Nat.mod_lt _ (by decide)⟩ (o % 0x800)
  else if 0x3000 ≤ o ∧ o < 0x3040 then
    .line ⟨(o - 0x3000) / 0x10 % 4, Nat.mod_lt _ (by decide)⟩ (o % 0x10)
  else .none

/-- The byte at an offset of the config page falls in a field locked now (R155). -/
def State.locked (s : State) (o : Nat) : Bool :=
  match settingAt o with
  | .camera c i => (s.cam c).armed && camLocked i
  | .screen sc i => (s.screen sc).enabled && scrLocked i
  | _ => false

/-- One byte merged into the working settings (R154); the interrupt enable copy follows the working
value (R171). -/
def State.putSetting (s : State) (o : Nat) (b : Byte) : State :=
  match settingAt o with
  | .part i =>
    { s with
      part := s.part.mergeByte i b
      ring := if i = 2 then { s.ring with intEnable := byteBit b 0 } else s.ring }
  | .camera c i => s.setCam c { s.cam c with cfg := (s.cam c).cfg.mergeByte i b }
  | .screen sc i => s.setScreen sc { s.screen sc with cfg := (s.screen sc).cfg.mergeByte i b }
  | .line l i => s.setLine l { s.line l with cfg := (s.line l).cfg.mergeByte i b }
  | .none => s

/-- One byte merged unless it falls in a locked field (R154, R155). -/
def State.mergeByte (s : State) (o : Nat) (b : Byte) : State :=
  if s.locked o then s else s.putSetting o b

/-- The enabled bytes, among those listed, of a write beat at offset `o` merged, one at a time (R154). -/
def State.mergeBytes (s : State) (o : Nat) (d : Beat) (en : Enables) : List Nat → State
  | [] => s
  | i :: rest =>
    (if en.getLsbD i then s.mergeByte (o + i) (beatByte d i) else s).mergeBytes o d en rest

/-- The number of enabled bytes of a beat at offset `o` that fall in locked fields (R155). -/
def State.lockedCount (s : State) (o : Nat) (en : Enables) : Nat :=
  (List.range 64).countP fun i => en.getLsbD i && s.locked (o + i)

/-- The lines whose polarity a merge changed form their raw levels anew (R75); `old` is the state
before the merge. -/
def State.polarityChanges (s old : State) : List LineId → State
  | [] => s
  | l :: rest => (s.polarityChange l (old.line l).cfg).polarityChanges old rest

/-- The CONFIG_IGNORED report of a write beat with enabled bytes in locked fields (R155). -/
def State.reportIgnored (s : State) (o n : Nat) : State :=
  if n = 0 then s else s.report .configIgnored 0 (BitVec.ofNat 32 o) (BitVec.ofNat 32 n)

/-- A CONFIG write beat merged: its bytes, the polarity changes it brings (log entry 13), and its
CONFIG_IGNORED report (R154, R155, R75). -/
def State.mergeConfig (s : State) (o : Nat) (d : Beat) (en : Enables) : State :=
  ((s.mergeBytes o d en (List.range 64)).polarityChanges s allLines).reportIgnored o
    (s.lockedCount o en)

/-! ### The descriptor table (R125, R128) -/

/-- A byte of a descriptor record merged into its trigger copy (R125, 11.3). -/
def TriggerCopy.mergeByte (t : TriggerCopy) (i : Nat) (b : Byte) : TriggerCopy :=
  if i = 0x00 then { t with enable := b }
  else if i = 0x01 then { t with armed := b }
  else if i = 0x05 then { t with camera := b }
  else if i = 0x06 then { t with source := b }
  else if i = 0x07 then { t with edge := b }
  else if i = 0x10 ∨ i = 0x11 then { t with remaining := putByte t.remaining (i - 0x10) b }
  else t

/-- The enabled bytes, among those listed, of a write beat merged into a trigger copy. -/
def TriggerCopy.mergeBytes (t : TriggerCopy) (d : Beat) (en : Enables) : List Nat → TriggerCopy
  | [] => t
  | i :: rest =>
    (if en.getLsbD i then t.mergeByte i (beatByte d i) else t).mergeBytes d en rest

/-- The load of descriptor `n` is still to be handed, so it will return what is written now (R132,
R145). -/
def Engine.loadAhead (e : Engine) (n : DescId) : Bool := e.running == some n && !e.loadHanded

/-- A write beat to descriptor `n` merged into its trigger copy (R125). A write to the armed field clears
the ARM write owed flag (R128), and an ARM(n) remembered for a load that is still to be handed: that load
returns the written value (R145). -/
def Engine.mergeDescriptor (e : Engine) (n : DescId) (d : Beat) (en : Enables) : Engine :=
  { e.setCopy n ((e.copyOf n).mergeBytes d en (List.range 64)) with
    armOwed := if en.getLsbD 1 then e.armOwed &&& ~~~(descBit n) else e.armOwed
    armLate := if en.getLsbD 1 && e.loadAhead n then false else e.armLate }

/-- A DESCRIPTOR write beat merged; `o` is its offset in the descriptor table. -/
def State.mergeDescriptor (s : State) (o : Nat) (d : Beat) (en : Enables) : State :=
  s.setEngine (s.engine.mergeDescriptor ⟨o / 64 % 16, Nat.mod_lt _ (by decide)⟩ d en)

end Sys2Proof.Machine
end

