-- ==== Sys2Proof/Machine/Live.lean ====
section
/-!
DEFINITION. The Live Page Unit: the page's contents (R168, R169, R69, R77, 11.5), its reads with the
attention summary (R170), and its writes: request words (R163) and the consumer index (R175).
-/
namespace Sys2Proof.Machine

/-! ### Values shown -/

/-- What `size` bytes from offset `o` of the control area show while their item is absent and the record
formats state no value for them: free values (log entry 18). -/
def State.absent (s : State) (o : Nat) : Nat → Nat
  | 0 => 0
  | size + 1 => (Config.absentByte s.liveReads o).toNat + 256 * s.absent (o + 1) size

/-- A field whose item may be absent; `base` is the beat's offset in the control area. -/
def State.optField (s : State) (base o size : Nat) (v : Option Nat) : Field :=
  (o, size, v.getD (s.absent (base + o) size))

/-- A timer's expiry. -/
def State.expiryField (s : State) (base o : Nat) (t : Option Time) : Field :=
  s.optField base o 4 (t.map BitVec.toNat)

/-- The code of a slot index or descriptor index that may be absent, FFh when it is (11.5). -/
def indexCode (x : Option Nat) : Nat := x.getD 0xFF

/-- Flags as the bits of a byte, bit 0 first. -/
def flagBits : List Bool → Nat
  | [] => 0
  | b :: rest => flagNat b + 2 * flagBits rest

/-- The code of a slot state (11.6). -/
def SlotContent.code : SlotContent → Nat
  | .free => 0
  | .filling _ _ => 1
  | .ready _ _ => 2
  | .torn _ _ => 3

/-- The code of an evaluator state (11.6). -/
def EvState.code : EvState → Nat
  | .off => 0
  | .learn => 1
  | .watch => 2
  | .hold _ _ _ => 3
  | .restartWait => 4

/-- The hold causes as bits: PAUSED, STALE (11.5). -/
def EvState.causeBits : EvState → Nat
  | .hold p q _ => flagBits [p, q]
  | _ => 0

/-- The code of the resume target: 0 absent, 1 LEARN, 2 WATCH (11.5). -/
def EvState.resumeCode : EvState → Nat
  | .hold _ _ .learn => 1
  | .hold _ _ .watch => 2
  | _ => 0

/-- The code of an evaluator mode (11.6). -/
def EvMode.code : EvMode → Nat
  | .stop => 0
  | .run => 1
  | .pause => 2

/-- The code of an overlay (11.6). -/
def Overlay.code : Overlay → Nat
  | .none => 0
  | .fill => 1
  | .stale => 2
  | .warn => 3

/-- The code of a screen state (11.6). -/
def ScrState.code : ScrState → Nat
  | .disabled => 0
  | .waitLatch => 1
  | .running => 2

/-- The code of a latch mode (11.2). -/
def LatchMode.code : LatchMode → Nat
  | .readStart => 0
  | .sync => 1
  | .cycle => 2

/-- The code of an engine state (11.6). -/
def EngState.code : EngState → Nat
  | .disabled => 0
  | .idle => 1
  | .loading => 2
  | .copying => 3
  | .waitingFrame => 4
  | .storing => 5

/-! ### The beats of the page (11.5) -/

/-- The part beat, 8000h. -/
def State.livePart (s : State) : List Field :=
  [(0x00, 2, 0x6320), (0x02, 1, 2), (0x04, 4, s.timebase.toNat), (0x08, 5, s.controlBase),
    (0x0D, 1, s.refMhz), (0x0E, 2, s.part.masks.toNat), (0x10, 1, s.part.intEnable.toNat),
    (0x18, 1, s.ring.producer.toNat), (0x19, 1, s.ring.consumer.toNat),
    (0x1A, 1, flagNat s.ring.overflow), (0x1C, 2, s.ring.lost.toNat)]

/-- The attention summary, 8040h. -/
def State.liveAttention (s : State) : List Field :=
  let a := s.attention
  [(0x00, 1, flagBits [a.camera, a.eval, a.screen, a.snap, a.config])]

/-- A request word. -/
def Mailbox.requestFields (m : Mailbox) (o : Nat) : List Field :=
  [(o, 1, m.code.toNat), (o + 1, 1, m.tag.toNat), (o + 2, 1, m.index.toNat)]

/-- An answer word (R165). -/
def Mailbox.answerFields (m : Mailbox) (o : Nat) : List Field :=
  [(o, 1, m.ansTag.toNat), (o + 1, 1, m.result.code), (o + 2, 1, flagNat m.openTag.isSome),
    (o + 3, 1, (m.openTag.getD 0).toNat)]

/-- The request words of cameras, screens and engine, 80C0h. -/
def State.liveRequests (s : State) : List Field :=
  allCams.flatMap (fun c => (s.mailbox (.camera c)).requestFields (c.val * 4))
    ++ allScreens.flatMap (fun x => (s.mailbox (.screen x)).requestFields (0x18 + x.val * 4))
    ++ (s.mailbox .engine).requestFields 0x24

/-- The answer words, 8100h. -/
def State.liveAnswers (s : State) : List Field :=
  (s.mailbox .part).answerFields 0x00
    ++ allCams.flatMap (fun c => (s.mailbox (.camera c)).answerFields (0x04 + c.val * 4))
    ++ allScreens.flatMap (fun x => (s.mailbox (.screen x)).answerFields (0x1C + x.val * 4))
    ++ (s.mailbox .engine).answerFields 0x28

/-- One entrance line's 16 bytes. -/
def State.liveLine (s : State) (l : LineId) : List Field :=
  let x := s.line l
  let o := l.val * 0x10
  [(o, 1, flagNat x.pin), (o + 1, 1, flagNat x.raw), (o + 2, 1, flagNat x.accepted),
    (o + 3, 1, flagNat x.filterTimer.isSome), s.expiryField 0x8140 (o + 4) x.filterTimer,
    (o + 8, 2, x.edges.toNat), (o + 0xA, 2, x.rejected.toNat),
    (o + 0xC, 1, flagNat x.cfg.activeLow), (o + 0xE, 2, x.cfg.filterTime.toNat)]

/-- The held completion list: sixteen pairs of index and finish count. -/
def State.liveHeld (s : State) : List Field :=
  (List.range 16).flatMap fun i =>
    let e := s.engine.held[i]?
    [s.optField 0x8180 (0x0C + 2 * i) 1 (e.map fun x => x.desc.val),
      s.optField 0x8180 (0x0D + 2 * i) 1 (e.map HeldDone.finishes)]

/-- The snapshot engine, 8180h (R129). Of the loaded copy it shows the seven fields to which 11.5 gives bytes;
the others, which R129 has shown too, have none and are not shown (DESIGN CHOICE, log entry 32). -/
def State.liveEngine (s : State) : List Field :=
  let e := s.engine
  let opt := fun (o size : Nat) (f : Loaded → Nat) => s.optField 0x8180 o size (e.loaded.map f)
  [(0x00, 1, e.state.code), (0x01, 1, flagNat e.enable), (0x02, 2, e.pending.toNat),
    (0x04, 1, indexCode (e.continuation.map Fin.val)), (0x05, 1, indexCode (e.running.map Fin.val)),
    (0x06, 1, indexCode (e.source.map fun x => x.1.val)),
    (0x07, 1, indexCode (e.source.map fun x => x.2)),
    (0x08, 2, e.coalesced.toNat), (0x0A, 1, e.held.length)]
    ++ s.liveHeld
    ++ [opt 0x2C 2 fun d => d.remaining.toNat, opt 0x2E 2 fun d => d.nextPlace.toNat,
      opt 0x30 2 fun d => d.completions.toNat, opt 0x32 1 fun d => d.lastResult.toNat,
      opt 0x33 1 fun d => flagBits [d.enable, d.armed], opt 0x34 4 fun d => d.lastSeq.toNat]

/-- The source code of a trigger copy as used. -/
def Trigger.code : Trigger → Nat
  | .none => 0
  | .entrance _ _ => 1
  | .cameraDirty => 2
  | .cameraStale => 3

/-- One trigger copy's word. -/
def TriggerCopy.fields (t : TriggerCopy) (o : Nat) : List Field :=
  [(o, 1, flagBits [t.enabled, t.isArmed] + 4 * t.cameraNat),
    (o + 1, 1, t.trigger.code + 4 * (t.edge.toNat % 8)),
    (o + 2, 2, t.remaining.toNat)]

/-- The trigger copies, 81C0h. -/
def State.liveCopies (s : State) : List Field :=
  allDescs.flatMap fun n => (s.engine.copyOf n).fields (n.val * 4)

/-- The ready list's six places, oldest first. -/
def State.liveReady (s : State) (base : Nat) (x : Camera) : List Field :=
  (List.range 6).map fun i => s.optField base (0x21 + i) 1 x.ready[i]?

/-- The intake flags: present, DISORDERED, DROPPING. While the record is absent its two flags are absent
too, and their bits are free values (log entry 18). -/
def State.intakeFlags (s : State) (base : Nat) (x : Camera) : Nat :=
  match x.intake with
  | some r => flagBits [true, r.disordered, r.target.isNone]
  | none => s.absent (base + 0x28) 1 / 2 % 4 * 2

/-- Beat 0 of a camera's state; `base` is its offset. -/
def State.liveCamera0 (s : State) (base : Nat) (x : Camera) : List Field :=
  let opt := fun (o size : Nat) (f : IntakeRec → Nat) => s.optField base o size (x.intake.map f)
  [(0x00, 1, x.chan.code), (0x01, 1, flagNat x.dropRun),
    (0x02, 1, flagBits [x.staleTimer.isSome, x.lostTimer.isSome, x.gapTimer.isSome]),
    s.expiryField base 0x04 x.staleTimer, s.expiryField base 0x08 x.lostTimer,
    s.expiryField base 0x0C x.gapTimer,
    (0x10, 4, x.started.toNat), (0x14, 4, x.completed.toNat), (0x18, 4, x.truncated.toNat),
    (0x1C, 4, x.dropped.toNat), (0x20, 1, x.ready.length)]
    ++ s.liveReady base x
    ++ [(0x28, 1, s.intakeFlags base x),
      (0x29, 1, indexCode (x.intake.bind IntakeRec.target)),
      opt 0x2A 2 IntakeRec.linesDone, opt 0x2C 4 IntakeRec.cursor,
      opt 0x30 4 fun r => r.seq.toNat, opt 0x34 4 fun r => r.lastBeat.toNat]

/-- The last-values record as shown: zeros and fitness clear while it is absent (R30). -/
def TileStats.shown (u : TileStats) : LastValues :=
  u.last.getD ⟨0, Vector.replicate 48 0, Vector.replicate 48 0, 0, false⟩

/-- Beat 1 of a camera's state: geometries and evaluator (R69, R155). -/
def State.liveCamera1 (_ : State) (x : Camera) : List Field :=
  let g := x.geom
  let w := x.cfg
  let e := x.eval
  let v := x.stats.shown
  [(0x00, 5, g.intakeBase), (0x05, 1, g.k), (0x06, 2, g.w), (0x08, 5, g.slotBase), (0x0E, 2, g.h),
    (0x10, 5, w.intakeBase.toNat), (0x15, 1, w.k.toNat), (0x16, 2, w.w.toNat),
    (0x18, 5, w.slotBase.toNat), (0x1E, 2, w.h.toNat),
    (0x20, 1, e.state.code), (0x21, 1, e.mode.code), (0x22, 1, e.state.causeBits),
    (0x23, 1, e.state.resumeCode), (0x24, 1, e.learnProgress), (0x25, 1, e.restartCount),
    (0x26, 1, e.eligible), (0x27, 1, e.level), (0x28, 1, e.verdict.code),
    (0x29, 1, flagNat v.fit), (0x2A, 2, e.unfit.toNat), (0x2C, 2, x.mapCount.toNat),
    (0x2E, 1, v.camMean), (0x30, 4, v.seq.toNat)]

/-- The last four bytes of a slot's record: completion time or lines done. -/
def SlotContent.timeOrLines : SlotContent → Option Nat
  | .free => none
  | .filling _ n => some n
  | .ready _ t => some t.toNat
  | .torn _ n => some n

/-- Slot `j` in beat 2 of a camera's state; the bytes of a slot the camera does not have carry no word and
read 0 (R168, R178). -/
def State.liveSlot (s : State) (base : Nat) (x : Camera) (j : Nat) : List Field :=
  let o := j * 10
  match x.slots[j]? with
  | some q =>
    [(o, 2, q.holders.toNat + q.content.code * 16384),
      s.optField base (o + 2) 4 (q.seq.map BitVec.toNat),
      s.optField base (o + 6) 4 q.content.timeOrLines]
  | none => []

/-- Beat 2 of a camera's state: the slot table. -/
def State.liveCamera2 (s : State) (base : Nat) (x : Camera) : List Field :=
  (List.range 6).flatMap (s.liveSlot base x)

/-- A tile's entry of the dirt map (R69). -/
def Tile.fields (x : Tile) (o texture : Nat) : List Field :=
  [(o, 2, texture), (o + 2, 2, x.baseline),
    (o + 4, 1, flagBits [x.history.newest, x.history.middle, x.history.oldest, x.confirmed]),
    (o + 5, 1, x.count)]

/-- Beat `k` of a camera's dirt map: the map count and tiles 10k onward. -/
def Camera.liveMap (x : Camera) (k : Nat) : List Field :=
  (0x00, 2, x.mapCount.toNat) ::
    (List.range 10).flatMap fun i =>
      match x.eval.tiles[10 * k + i]? with
      | some q => q.fields (2 + i * 6) (x.stats.shown.texture.toList.getD (10 * k + i) 0)
      | none => []

/-- The number of entries in flight under a set. -/
def Screen.fetching (x : Screen) (r : SetRole) : Nat := x.table.countP (·.under r)

/-- Beat 0 of a screen; `base` is its offset. The committed layouts, which R83 has shown, have no byte in 11.5
and are not shown (DESIGN CHOICE, log entry 32). The sync level, for which 11.5 gives no code, shows 1 for high
(DESIGN CHOICE, log entry 33). -/
def State.liveScreen0 (s : State) (base : Nat) (x : Screen) : List Field :=
  let g := x.geom
  let w := x.cfg
  [(0x00, 1, x.state.code), (0x01, 1, g.mode.code), (0x02, 1, choiceCode x.choice),
    (0x03, 1, flagNat x.pendingCommit.isSome),
    s.optField base 0x04 1 (x.pendingCommit.map BitVec.toNat),
    (0x05, 1, flagNat x.owed), (0x06, 1, flagNat x.sync),
    (0x07, 1, flagBits [x.offsetTimer.isSome, x.cycleTimer.isSome]),
    s.expiryField base 0x08 x.offsetTimer, s.expiryField base 0x0C x.cycleTimer,
    (0x10, 2, x.lastLine.getD 0xFFFF), (0x12, 2, x.ignoredSyncs.toNat),
    (0x14, 4, x.latchCount.toNat), (0x18, 5, g.base), (0x1E, 2, g.ws), (0x20, 2, g.hs),
    (0x22, 1, x.table.countP Entry.isWaiting), (0x23, 1, x.fetching .active),
    (0x24, 1, x.fetching .retiring), (0x25, 1, flagNat x.misuse), (0x26, 2, x.misuseCount.toNat),
    (0x28, 5, w.base.toNat), (0x2D, 1, w.latchMode.toNat), (0x2E, 2, w.ws.toNat),
    (0x30, 2, w.hs.toNat)]

/-- A camera entry of a hold set; FFh for absent slots, and in all three bytes for a camera the set does
not use. -/
def camEntryFields (e : Option CamEntry) (o : Nat) : List Field :=
  match e with
  | none => [(o, 3, 0xFFFFFF)]
  | some e => [(o, 1, indexCode e.primary), (o + 1, 1, indexCode e.fallback), (o + 2, 1, e.overlay.code)]

/-- A hold set at offset `o` of its beat. An empty set uses no camera and has no layout choice; its
border width and pane count are absent (log entry 18). Pane entries and colours, which R83 has shown, have no
byte in 11.5 and are not shown (DESIGN CHOICE, log entry 32). -/
def State.liveSet (s : State) (base o : Nat) (hs : Option HoldSet) : List Field :=
  [(o, 1, choiceCode (hs.map HoldSet.choice)), s.optField base (o + 1) 1 (hs.map HoldSet.border),
    s.optField base (o + 2) 1 (hs.map fun h => h.layout.used)]
    ++ allCams.flatMap fun c => camEntryFields (hs.bind fun h => h.cams[c]) (o + 3 + c.val * 3)

/-- Beat 1 of a screen: its hold sets. -/
def State.liveScreen1 (s : State) (base : Nat) (x : Screen) : List Field :=
  s.liveSet base 0x00 x.active ++ s.liveSet base 0x18 x.retiring

/-- The fields of beat `k` of the live page, `k` counted from 8000h. -/
def State.liveFields (s : State) (k : Nat) : List Field :=
  let base := 0x8000 + k * 64
  if k = 0 then s.livePart
  else if k = 1 then s.liveAttention
  else if k = 2 then (s.mailbox .part).requestFields 0
  else if k = 3 then s.liveRequests
  else if k = 4 then s.liveAnswers
  else if k = 5 then allLines.flatMap s.liveLine
  else if k = 6 then s.liveEngine
  else if k = 7 then s.liveCopies
  else if k < 26 then
    let x := s.cam ⟨(k - 8) / 3 % 6, Nat.mod_lt _ (by decide)⟩
    if (k - 8) % 3 = 0 then s.liveCamera0 base x
    else if (k - 8) % 3 = 1 then s.liveCamera1 x
    else s.liveCamera2 base x
  else if k < 56 then
    (s.cam ⟨(k - 26) / 5 % 6, Nat.mod_lt _ (by decide)⟩).liveMap ((k - 26) % 5)
  else if k < 62 then
    let x := s.screen ⟨(k - 56) / 2 % 3, Nat.mod_lt _ (by decide)⟩
    if k % 2 = 0 then s.liveScreen0 base x else s.liveScreen1 base x
  else []

/-- Beat `k` of the live page; bytes that carry no word read 0 (R168, R178). -/
def State.liveBeat (s : State) (k : Nat) : Beat := beatOfFields (s.liveFields k)

/-! ### Reads and writes (R163, R168, R170, R175) -/

/-- A read beat of the live page at offset `o` of the control area: answered at its acceptance from the
state as it stands; the beat of the attention summary clears it (R168, R170). -/
def State.liveRead (s : State) (p : PortTag) (o : Nat) : State :=
  let k := (o - 0x8000) / 64
  let s := s.answerRead p (s.liveBeat k)
  { s with
    attention := if k = 1 then Attention.clear else s.attention
    liveReads := s.liveReads + 1 }

/-- The consumer index after a write of `v`: the value modulo 64, or the producer index where that value
lies forward of it, counted from the old consumer index (R175). -/
def Ring.consumerAfter (r : Ring) (v : Byte) : BitVec 6 :=
  let w := v.setWidth 6
  if (r.producer - r.consumer).toNat < (w - r.consumer).toNat then r.producer else w

/-- The consumer index written (R175). -/
def State.writeConsumer (s : State) (v : Byte) : State :=
  { s with ring :=
    { s.ring with consumer := s.ring.consumerAfter v, overflow := false, lost := 0 } }

/-- A byte of a write beat, where it is enabled. -/
def enabledByte (d : Beat) (en : Enables) (i : Nat) : Option Byte :=
  if en.getLsbD i then some (beatByte d i) else none

/-- The request a write beat carries for the word at offset `i` of the beat, if any (R163). -/
def State.requestAt (s : State) (o : Owner) (d : Beat) (en : Enables) (i : Nat) : State :=
  match enabledByte d en i with
  | some code => s.takeRequest o code ⟨enabledByte d en (i + 1), enabledByte d en (i + 2)⟩
  | none => s

/-- The request words of the beat at 80C0h, by ascending offset (R163, 11.5). -/
def requestWords : List (Owner × Nat) :=
  allCams.map (fun c => (.camera c, c.val * 4))
    ++ allScreens.map (fun x => (.screen x, 0x18 + x.val * 4)) ++ [(.engine, 0x24)]

/-- The requests a write beat carries, taken in the order listed. -/
def State.requestsAt (s : State) (d : Beat) (en : Enables) : List (Owner × Nat) → State
  | [] => s
  | w :: rest => (s.requestAt w.1 d en w.2).requestsAt d en rest

/-- What the bytes of a LIVE write beat bring: the consumer index, or requests; every other enabled byte
is absorbed (R168). -/
def State.liveBytes (s : State) (o : Nat) (d : Beat) (en : Enables) : State :=
  let k := (o - 0x8000) / 64
  if k = 0 then
    match enabledByte d en 0x19 with
    | some v => s.writeConsumer v
    | none => s
  else if k = 2 then s.requestAt .part d en 0
  else if k = 3 then s.requestsAt d en requestWords
  else s

/-- A LIVE write beat (R168). -/
def State.liveWrite (s : State) (p : PortTag) (o : Nat) (d : Beat) (en : Enables) : State :=
  (s.writeDone p).liveBytes o d en

end Sys2Proof.Machine
end

