-- ==== Sys2Proof/Machine/Port.lean ====
section
/-!
DEFINITION. The upstream port: the handling of a beat by its class (R149 to R151), the beats held back
and taken when room is made (R149, R158; log entry 6).
-/
namespace Sys2Proof.Machine

/-! ### Handling by class (R151) -/

/-- A beat on the PASS queue's way as a read (R158, R161). -/
def State.passRead (s : State) (p : PortTag) (a : Nat) : State :=
  (s.expectRead p).hand .pass a (.read (.pass (s.port.place p)))

/-- A beat on the PASS queue's way as a write (R158). -/
def State.passWrite (s : State) (p : PortTag) (a : Nat) (d : Beat) (en : Enables) : State :=
  (s.writeDone p).hand .pass a (.write d en)

/-- A beat passed unchanged (R158). -/
def State.pass (s : State) (p : PortTag) (a : Nat) : BeatOp → State
  | .read => s.passRead p a
  | .write d en => s.passWrite p a d en

/-- A beat accepted, `a` its beat address, `cl` its class (R151). -/
def State.acceptClass (s : State) (cl : Class) (p : PortTag) (a : Nat) (op : BeatOp) : State :=
  match cl, op with
  | .config, .write d en => (s.passWrite p a d en).mergeConfig (a - s.controlBase) d en
  | .config, .read => s.passRead p a
  | .descriptor, .write d en =>
    (s.passWrite p a d en).mergeDescriptor (a - s.controlBase - 0x4000) d en
  | .descriptor, .read => s.passRead p a
  | .live, .write d en => s.liveWrite p (a - s.controlBase) d en
  | .live, .read => s.liveRead p (a - s.controlBase)
  | .ring, op => s.pass p a op
  | .plain, op => s.pass p a op
  | .intake c, .write d en => (s.writeDone p).intakeWrite c a d en
  | .intake c, .read => s.intakeRead c p a
  | .screen sc, .write _ _ => (s.writeDone p).screenWrite sc (a - (s.screen sc).geom.base)
  | .screen sc, .read => s.screenRead sc p (a - (s.screen sc).geom.base)
  | .intakeOff _, .write _ _ => s.writeDone p
  | .intakeOff _, .read => s.answerRead p zeroBeat
  | .screenOff _, .write _ _ => s.writeDone p
  | .screenOff sc, .read => s.answerRead p (uniformBeat (s.screen sc).cfg.background)

/-- A beat accepted: classified on its own address, and handled by its class (R150, R151). -/
def State.acceptBeat (s : State) (p : PortTag) (a : Addr) (op : BeatOp) : State :=
  s.acceptClass (s.classify (beatBase a)) p (beatBase a) op

/-- An item of the upstream port accepted. -/
def State.acceptItem (s : State) : UpItem → State
  | .beat p a op => s.acceptBeat p a op
  | .request p o code f => (s.writeDone p).takeRequest o code f
  | .consumer p v => (s.writeDone p).writeConsumer v

/-! ### Room (R104, R149, R158) -/

/-- The beat of class `cl` at beat address `a` can be taken now. -/
def State.roomFor (s : State) (cl : Class) (a : Nat) (op : BeatOp) : Bool :=
  match cl, op with
  | .config, _ => s.room .pass
  | .descriptor, _ => s.room .pass
  | .ring, _ => s.room .pass
  | .plain, _ => s.room .pass
  | .intake c, .write _ _ => !s.intakeStores c a || s.room .intake
  | .intake c, .read => (s.cam c).readSlot.isNone || s.room .intake
  | .screen sc, .read => (s.screen sc).hasRoom
  | _, _ => true

/-- The item can be taken now; a live page write always can. -/
def State.canTake (s : State) : UpItem → Bool
  | .beat _ a op => s.roomFor (s.classify (beatBase a)) (beatBase a) op
  | _ => true

/-- An item presented: accepted, or held back with every item presented after it (R149). -/
def State.present (s : State) (i : UpItem) : State :=
  if s.port.held.isEmpty && s.canTake i then s.acceptItem i
  else { s with port := { s.port with held := s.port.held ++ [i] } }

/-- Items held back accepted, oldest first, while they can be taken; the rest are held on, and the list
given is what is held. -/
def State.drain (s : State) : List UpItem → State
  | [] => { s with port := { s.port with held := [] } }
  | i :: rest =>
    if s.canTake i then (s.acceptItem i).drain rest
    else { s with port := { s.port with held := i :: rest } }

/-- After an event that may have made room: the beats held back are taken as far as there is room
(R149; log entry 6). -/
def State.settle (s : State) : State := s.drain s.port.held

end Sys2Proof.Machine
end

