-- ==== Sys2Proof/Machine/Arbiter.lean ====
section
/-!
DEFINITION. The Memory Port Arbiter (R157 to R159) and the returns of reads from DRAM (R149, R161, R21,
R116, R133, R134).
-/
namespace Sys2Proof.Machine

/-! ### Grants (R159) -/

/-- The circular order PASS, INTAKE, COMPOSE, COPY, DESC, REPORT from the source after `q` (R159). -/
def Queue.after : Queue → List Queue
  | .pass => [.intake, .compose, .copy, .desc, .report, .pass]
  | .intake => [.compose, .copy, .desc, .report, .pass, .intake]
  | .compose => [.copy, .desc, .report, .pass, .intake, .compose]
  | .copy => [.desc, .report, .pass, .intake, .compose, .copy]
  | .desc => [.report, .pass, .intake, .compose, .copy, .desc]
  | .report => [.pass, .intake, .compose, .copy, .desc, .report]

/-- The beat is a write. -/
def MemOp.isWrite : MemOp → Bool
  | .read _ => false
  | .write _ _ => true

/-- An earlier-handed beat `b` keeps beat `h` back: the same DRAM beat address, and one of the two a
write (R159). -/
def MemBeat.blocks (b h : MemBeat) : Bool :=
  b.order < h.order && b.addr == h.addr && (b.op.isWrite || h.op.isWrite)

/-- A beat of another queue keeps the head `h` of queue `q` back (R159). -/
def State.blocked (s : State) (q : Queue) (h : MemBeat) : Bool :=
  q.after.any fun x => x != q && (s.queue x).any (·.blocks h)

/-- The head of a queue, where it is eligible (R159). -/
def State.eligible (s : State) (q : Queue) : Option MemBeat :=
  match s.queue q with
  | [] => none
  | h :: _ => if s.blocked q h then none else some h

/-- The grant: the first source, from the one after the last granted, with an eligible head (R159). -/
def State.granted (s : State) : Option (Queue × MemBeat) :=
  s.arb.last.after.findSome? fun q => (s.eligible q).map fun h => (q, h)

/-- A beat at DRAM: a read takes the bytes DRAM holds now and is answered in its turn; a write is
applied under its byte enables (R149; log entry 7). -/
def State.send (s : State) (h : MemBeat) : State :=
  match h.op with
  | .read o => { s with reads := s.reads ++ [⟨o, h.addr, Memory.beat s.dram h.addr⟩] }
  | .write d en => { s with dram := Memory.writeBeat s.dram h.addr d en }

/-- The head of queue `q` leaves it, and `q` becomes the last granted (R159). -/
def State.leave (s : State) (q : Queue) : State :=
  { s with arb := { s.arb with queues := s.arb.queues.set q.idx (s.queue q).tail, last := q } }

/-- One grant; nothing where no queue has an eligible head (R159). -/
def State.grant (s : State) : State :=
  match s.granted with
  | some (q, h) => (s.leave q).send h
  | none => s

/-! ### Returns (R149, R159) -/

/-- The oldest read in flight leaves: DRAM answers reads in the order they were sent (R149). -/
def State.popRead (s : State) : State := { s with reads := s.reads.tail }

/-- The oldest read in flight returns, where it is one of the PASS queue (R161). -/
def State.passReturn (s : State) : State :=
  match s.reads with
  | ⟨.pass r, _, d⟩ :: _ => s.popRead.formRead r d
  | _ => s

/-- The oldest read in flight returns, where it is one of an intake window (R21, R161). -/
def State.intakeReturn (s : State) : State :=
  match s.reads with
  | ⟨.intake r, _, d⟩ :: _ => s.popRead.formRead r d
  | _ => s

/-- The oldest read in flight returns, where it is a composer fetch (R116). -/
def State.composeReturn (s : State) : State :=
  match s.reads with
  | ⟨.compose f, _, d⟩ :: _ => s.popRead.fetchReturn f d
  | _ => s

/-- The oldest read in flight returns, where it is a descriptor load (R133). -/
def State.descReturn (s : State) : State :=
  match s.reads with
  | ⟨.load run, _, d⟩ :: _ => s.popRead.loadReturn run d
  | _ => s

/-- The oldest read in flight returns, where it is a source read of a copy (R134). -/
def State.copyReturn (s : State) : State :=
  match s.reads with
  | ⟨.copy run, _, d⟩ :: _ => s.popRead.copyReadBack run d
  | _ => s

/-! ### The handings of waiting beats (R115, R173) -/

/-- The oldest waiting composer fetch handed, where the COMPOSE queue has a place (R115). -/
def State.handNextFetch (s : State) : State :=
  match s.fetchWait with
  | f :: rest =>
    if s.room .compose then { s.handFetch f with fetchWait := rest } else s
  | [] => s

/-- The record at the head of the staging list handed, where the REPORT queue has a place (R173). -/
def State.handNextRecord (s : State) : State :=
  match s.ring.staging with
  | r :: rest =>
    if s.room .report then
      State.handRecord { s with ring := { s.ring with staging := rest } } r
    else s
  | [] => s

end Sys2Proof.Machine
end

