-- ==== Sys2Proof/Machine/CmdSignals.lean ====
section
/-!
DEFINITION. The commands of the reset pin, the reference clock, the input pins and the timers (R162, R73,
R87, R3, R14, R74, R88). A timer's command acts while the Timebase stands at its expiry, and else changes
nothing (log entry 4); the beats held back are taken where the event has made room (log entry 6).
-/
namespace Sys2Proof.Machine

/-- What a command answers. -/
abbrev Answer := Host.Outcome State Fault Refusal

/-- POWER_ON_RESET (R162, and the reset rule of every block). -/
def execPowerOnReset (straps : Straps) (pins : Pins) (s : State) : Answer :=
  .next (s.powerOn straps pins)

/-! ### Timers (R162) -/

/-- What a timer's running out brings (R3, R14, R74, R87, R88). -/
def State.runOut (s : State) : Timer → State
  | .stale c => s.staleExpiry c
  | .lost c => s.lostExpiry c
  | .gap c => s.gapExpiry c
  | .filter l => s.filterExpiry l
  | .offset sc => s.offsetExpiry sc
  | .cycle sc => s.cycleExpiry sc

/-- A timer runs out if the Timebase stands at its expiry (R162); the beats held back are taken where the
event has made room. -/
def State.expire (s : State) (x : Timer) : State :=
  if timerDue s.timebase (s.timer x) then (s.runOut x).settle else s

/-- The timers in the order in which a tick takes those that no command has taken (log entry 4). -/
def allTimers : List Timer :=
  allCams.flatMap (fun c => [.stale c, .lost c, .gap c]) ++ allLines.map .filter
    ++ allScreens.flatMap fun sc => [.offset sc, .cycle sc]

/-- The timers of the list that stand at their expiry run out, in order. -/
def State.expireAll (s : State) : List Timer → State
  | [] => s
  | x :: rest => (s.expire x).expireAll rest

/-- TIMEBASE_TICK (R162): a timer that stands at its expiry runs out before the Timebase goes on, so that
none is passed (log entry 4). With the tick the moment of a RELEARN is over (log entry 31). -/
def execTimebaseTick (s : State) : Answer :=
  let t := s.expireAll allTimers
  .next { t with timebase := t.timebase + 1, cams := t.cams.map Camera.momentOver }

/-- ENTRANCE_PIN_CHANGE: a change of the pin level (R73). The level the pin has is no change (log entry
22). -/
def execEntrancePinChange (l : LineId) (level : Bool) (s : State) : Answer :=
  .next (if (s.line l).pin = level then s else (s.pinChange l level).settle)

/-- SYNC_LINE_CHANGE: a change of the sync line (R87). The level the line has is no change (log entry
22). -/
def execSyncLineChange (sc : ScrId) (level : Bool) (s : State) : Answer :=
  .next (if (s.screen sc).sync = level then s else (s.syncChange sc level).settle)

/-- STALE_TIMER_EXPIRY (R3, R4). -/
def execStaleTimerExpiry (c : CamId) (s : State) : Answer := .next (s.expire (.stale c))

/-- LOST_TIMER_EXPIRY (R3, R4). -/
def execLostTimerExpiry (c : CamId) (s : State) : Answer := .next (s.expire (.lost c))

/-- GAP_TIMER_EXPIRY (R14). -/
def execGapTimerExpiry (c : CamId) (s : State) : Answer := .next (s.expire (.gap c))

/-- FILTER_TIMER_EXPIRY (R74). -/
def execFilterTimerExpiry (l : LineId) (s : State) : Answer := .next (s.expire (.filter l))

/-- OFFSET_TIMER_EXPIRY (R87). -/
def execOffsetTimerExpiry (sc : ScrId) (s : State) : Answer := .next (s.expire (.offset sc))

/-- CYCLE_TIMER_EXPIRY (R88). -/
def execCycleTimerExpiry (sc : ScrId) (s : State) : Answer := .next (s.expire (.cycle sc))

end Sys2Proof.Machine
end

