-- ==== Sys2Proof/Machine/CmdBeats.lean ====
section
/-!
DEFINITION. The commands that present a beat at the upstream port (R149 to R151). A beat is handled by
the class it has at its acceptance, whichever row named it (log entry 5); a beat that cannot be taken is
held back (R149).
-/
namespace Sys2Proof.Machine

/-- INTAKE_WRITE_BEAT (R8). -/
def execIntakeWriteBeat (p : PortTag) (a : Addr) (d : Beat) (en : Enables) (s : State) : Answer :=
  .next (s.present (.beat p a (.write d en)))

/-- INTAKE_READ_BEAT (R21). -/
def execIntakeReadBeat (p : PortTag) (a : Addr) (s : State) : Answer :=
  .next (s.present (.beat p a .read))

/-- INTAKE_OFF_BEAT (R151). -/
def execIntakeOffBeat (p : PortTag) (a : Addr) (op : BeatOp) (s : State) : Answer :=
  .next (s.present (.beat p a op))

/-- SCREEN_READ_BEAT (R104). -/
def execScreenReadBeat (p : PortTag) (a : Addr) (s : State) : Answer :=
  .next (s.present (.beat p a .read))

/-- SCREEN_WRITE_BEAT (R120). -/
def execScreenWriteBeat (p : PortTag) (a : Addr) (d : Beat) (en : Enables) (s : State) : Answer :=
  .next (s.present (.beat p a (.write d en)))

/-- SCREEN_OFF_BEAT (R151). -/
def execScreenOffBeat (p : PortTag) (a : Addr) (op : BeatOp) (s : State) : Answer :=
  .next (s.present (.beat p a op))

/-- PLAIN_BEAT: PLAIN, RING, or a CONFIG or DESCRIPTOR read (R158). -/
def execPlainBeat (p : PortTag) (a : Addr) (op : BeatOp) (s : State) : Answer :=
  .next (s.present (.beat p a op))

/-- CONFIG_WRITE (R154). -/
def execConfigWrite (p : PortTag) (a : Addr) (d : Beat) (en : Enables) (s : State) : Answer :=
  .next (s.present (.beat p a (.write d en)))

/-- DESCRIPTOR_WRITE (R125). -/
def execDescriptorWrite (p : PortTag) (a : Addr) (d : Beat) (en : Enables) (s : State) : Answer :=
  .next (s.present (.beat p a (.write d en)))

/-- ATTENTION_SUMMARY_READ (R170); with another address of the page, a live read that covers another
beat (R168). -/
def execAttentionSummaryRead (p : PortTag) (a : Addr) (s : State) : Answer :=
  .next (s.present (.beat p a .read))

/-- CONSUMER_INDEX_WRITE (R175). -/
def execConsumerIndexWrite (p : PortTag) (v : Byte) (s : State) : Answer :=
  .next (s.present (.consumer p v))

/-- LIVE_WRITE_ABSORBED (R168): a LIVE write beat. Bytes that fall in a request word or the consumer index
are taken, every other byte is absorbed. -/
def execLiveWriteAbsorbed (p : PortTag) (a : Addr) (d : Beat) (en : Enables) (s : State) : Answer :=
  .next (s.present (.beat p a (.write d en)))

end Sys2Proof.Machine
end

