-- ==== Sys2Proof/Machine/CmdRequests.lean ====
section
/-!
DEFINITION. The commands that write one request word of the live page (R163, R164).
-/
namespace Sys2Proof.Machine

/-- A request word written by a beat of its own. -/
def State.request (s : State) (p : PortTag) (o : Owner) (code : Byte) (f : ReqFields) : State :=
  s.present (.request p o code f)

/-- UNKNOWN_CODE (R164). -/
def execUnknownCode (p : PortTag) (o : Owner) (code : Byte) (f : ReqFields) (s : State) : Answer :=
  .next (s.request p o code f)

/-- RESTART without the wait-idle flag (R166). The word's index after the write is the flag (log entry
16). -/
def execRestart (p : PortTag) (f : ReqFields) (s : State) : Answer :=
  .next (s.request p .part 1 f)

/-- RESTART with the wait-idle flag (R166). The word's index after the write is the flag (log entry
16). -/
def execRestartWaitIdle (p : PortTag) (f : ReqFields) (s : State) : Answer :=
  .next (s.request p .part 1 f)

/-- ARM (R22, R23). -/
def execArm (p : PortTag) (c : CamId) (f : ReqFields) (s : State) : Answer :=
  .next (s.request p (.camera c) 1 f)

/-- DISARM (R22, R24). -/
def execDisarm (p : PortTag) (c : CamId) (f : ReqFields) (s : State) : Answer :=
  .next (s.request p (.camera c) 2 f)

/-- SKIP (R22, R25). -/
def execSkip (p : PortTag) (c : CamId) (f : ReqFields) (s : State) : Answer :=
  .next (s.request p (.camera c) 3 f)

/-- RESET (R22, R26). -/
def execReset (p : PortTag) (c : CamId) (f : ReqFields) (s : State) : Answer :=
  .next (s.request p (.camera c) 4 f)

/-- EVAL_RUN (R59). -/
def execEvalRun (p : PortTag) (c : CamId) (f : ReqFields) (s : State) : Answer :=
  .next (s.request p (.camera c) 5 f)

/-- EVAL_PAUSE (R60). -/
def execEvalPause (p : PortTag) (c : CamId) (f : ReqFields) (s : State) : Answer :=
  .next (s.request p (.camera c) 6 f)

/-- EVAL_STOP (R61). -/
def execEvalStop (p : PortTag) (c : CamId) (f : ReqFields) (s : State) : Answer :=
  .next (s.request p (.camera c) 7 f)

/-- RELEARN (R62). -/
def execRelearn (p : PortTag) (c : CamId) (f : ReqFields) (s : State) : Answer :=
  .next (s.request p (.camera c) 8 f)

/-- ENABLE (R98, R100). -/
def execEnable (p : PortTag) (sc : ScrId) (f : ReqFields) (s : State) : Answer :=
  .next (s.request p (.screen sc) 1 f)

/-- DISABLE (R99, R100). -/
def execDisable (p : PortTag) (sc : ScrId) (f : ReqFields) (s : State) : Answer :=
  .next (s.request p (.screen sc) 2 f)

/-- COMMIT (R85, R100). -/
def execCommit (p : PortTag) (sc : ScrId) (f : ReqFields) (s : State) : Answer :=
  .next (s.request p (.screen sc) 3 f)

/-- ENGINE_ENABLE (R143). -/
def execEngineEnable (p : PortTag) (f : ReqFields) (s : State) : Answer :=
  .next (s.request p .engine 1 f)

/-- ENGINE_DISABLE (R143). -/
def execEngineDisable (p : PortTag) (f : ReqFields) (s : State) : Answer :=
  .next (s.request p .engine 2 f)

/-- START (R127). -/
def execStart (p : PortTag) (f : ReqFields) (s : State) : Answer :=
  .next (s.request p .engine 3 f)

/-- SNAPSHOT_ARM (R128). -/
def execSnapshotArm (p : PortTag) (f : ReqFields) (s : State) : Answer :=
  .next (s.request p .engine 4 f)

/-- ABORT (R142). -/
def execAbort (p : PortTag) (f : ReqFields) (s : State) : Answer :=
  .next (s.request p .engine 5 f)

end Sys2Proof.Machine
end

