-- ==== Sys2Proof/Machine/CmdMemory.lean ====
section
/-!
DEFINITION. The commands of the memory side: grants and returns (R159, R161), the handings of the part's
own beats (R115, R128, R132, R134, R137, R173). A command whose event is not due changes nothing (log
entries 8 and 22); the beats held back are taken where the event has made room (log entry 6).
-/
namespace Sys2Proof.Machine

/-- ARBITER_GRANT (R159). -/
def execArbiterGrant (s : State) : Answer := .next s.grant.settle

/-- INTAKE_READ_RETURN (R21, R161). -/
def execIntakeReadReturn (s : State) : Answer := .next s.intakeReturn.settle

/-- PASS_READ_RETURN (R161). -/
def execPassReadReturn (s : State) : Answer := .next s.passReturn.settle

/-- COMPOSER_FETCH_HANDING (R115). -/
def execComposerFetchHanding (s : State) : Answer := .next s.handNextFetch.settle

/-- COMPOSER_FETCH_RETURN (R116). -/
def execComposerFetchReturn (s : State) : Answer := .next s.composeReturn.settle

/-- DESCRIPTOR_LOAD (R132). -/
def execDescriptorLoad (s : State) : Answer := .next s.stepLoad.settle

/-- DESCRIPTOR_LOAD_RETURN (R133). -/
def execDescriptorLoadReturn (s : State) : Answer := .next s.descReturn.settle

/-- COPY_READ (R134). -/
def execCopyRead (s : State) : Answer := .next s.stepCopyRead.settle

/-- COPY_READ_RETURN (R134). -/
def execCopyReadReturn (s : State) : Answer := .next s.copyReturn.settle

/-- COPY_WRITE (R134). -/
def execCopyWrite (s : State) : Answer := .next s.stepCopyWrite.settle

/-- DESCRIPTOR_WRITE_BACK (R137). -/
def execDescriptorWriteBack (s : State) : Answer := .next s.stepWriteBack.settle

/-- ARM_WRITE (R128). -/
def execArmWrite (s : State) : Answer := .next s.stepArmWrite.settle

/-- REPORT_HANDING (R173). -/
def execReportHanding (s : State) : Answer := .next s.handNextRecord.settle

end Sys2Proof.Machine
end

