-- ==== Sys2Proof/Machine/Dispatch.lean ====
section
/-! DEFINITION. One arm per command: the direct call of its meaning. -/
namespace Sys2Proof.Machine

/-- The effect of a command on everything but the queue of commands. -/
def exec (i : Instr) (s : State) : Host.Outcome State Fault Refusal :=
  match i with
  | .powerOnReset straps pins => Sys2Proof.Machine.execPowerOnReset straps pins s
  | .timebaseTick => Sys2Proof.Machine.execTimebaseTick s
  | .entrancePinChange l level => Sys2Proof.Machine.execEntrancePinChange l level s
  | .syncLineChange sc level => Sys2Proof.Machine.execSyncLineChange sc level s
  | .staleTimerExpiry c => Sys2Proof.Machine.execStaleTimerExpiry c s
  | .lostTimerExpiry c => Sys2Proof.Machine.execLostTimerExpiry c s
  | .gapTimerExpiry c => Sys2Proof.Machine.execGapTimerExpiry c s
  | .filterTimerExpiry l => Sys2Proof.Machine.execFilterTimerExpiry l s
  | .offsetTimerExpiry sc => Sys2Proof.Machine.execOffsetTimerExpiry sc s
  | .cycleTimerExpiry sc => Sys2Proof.Machine.execCycleTimerExpiry sc s
  | .intakeWriteBeat p a d en => Sys2Proof.Machine.execIntakeWriteBeat p a d en s
  | .intakeReadBeat p a => Sys2Proof.Machine.execIntakeReadBeat p a s
  | .intakeReadReturn => Sys2Proof.Machine.execIntakeReadReturn s
  | .intakeOffBeat p a op => Sys2Proof.Machine.execIntakeOffBeat p a op s
  | .screenReadBeat p a => Sys2Proof.Machine.execScreenReadBeat p a s
  | .screenWriteBeat p a d en => Sys2Proof.Machine.execScreenWriteBeat p a d en s
  | .screenOffBeat p a op => Sys2Proof.Machine.execScreenOffBeat p a op s
  | .plainBeat p a op => Sys2Proof.Machine.execPlainBeat p a op s
  | .configWrite p a d en => Sys2Proof.Machine.execConfigWrite p a d en s
  | .descriptorWrite p a d en => Sys2Proof.Machine.execDescriptorWrite p a d en s
  | .passReadReturn => Sys2Proof.Machine.execPassReadReturn s
  | .attentionSummaryRead p a => Sys2Proof.Machine.execAttentionSummaryRead p a s
  | .consumerIndexWrite p v => Sys2Proof.Machine.execConsumerIndexWrite p v s
  | .liveWriteAbsorbed p a d en => Sys2Proof.Machine.execLiveWriteAbsorbed p a d en s
  | .unknownCode p o code f => Sys2Proof.Machine.execUnknownCode p o code f s
  | .restart p f => Sys2Proof.Machine.execRestart p f s
  | .restartWaitIdle p f => Sys2Proof.Machine.execRestartWaitIdle p f s
  | .arm p c f => Sys2Proof.Machine.execArm p c f s
  | .disarm p c f => Sys2Proof.Machine.execDisarm p c f s
  | .skip p c f => Sys2Proof.Machine.execSkip p c f s
  | .reset p c f => Sys2Proof.Machine.execReset p c f s
  | .evalRun p c f => Sys2Proof.Machine.execEvalRun p c f s
  | .evalPause p c f => Sys2Proof.Machine.execEvalPause p c f s
  | .evalStop p c f => Sys2Proof.Machine.execEvalStop p c f s
  | .relearn p c f => Sys2Proof.Machine.execRelearn p c f s
  | .enable p sc f => Sys2Proof.Machine.execEnable p sc f s
  | .disable p sc f => Sys2Proof.Machine.execDisable p sc f s
  | .commit p sc f => Sys2Proof.Machine.execCommit p sc f s
  | .engineEnable p f => Sys2Proof.Machine.execEngineEnable p f s
  | .engineDisable p f => Sys2Proof.Machine.execEngineDisable p f s
  | .start p f => Sys2Proof.Machine.execStart p f s
  | .snapshotArm p f => Sys2Proof.Machine.execSnapshotArm p f s
  | .abort p f => Sys2Proof.Machine.execAbort p f s
  | .arbiterGrant => Sys2Proof.Machine.execArbiterGrant s
  | .composerFetchHanding => Sys2Proof.Machine.execComposerFetchHanding s
  | .composerFetchReturn => Sys2Proof.Machine.execComposerFetchReturn s
  | .descriptorLoad => Sys2Proof.Machine.execDescriptorLoad s
  | .descriptorLoadReturn => Sys2Proof.Machine.execDescriptorLoadReturn s
  | .copyRead => Sys2Proof.Machine.execCopyRead s
  | .copyReadReturn => Sys2Proof.Machine.execCopyReadReturn s
  | .copyWrite => Sys2Proof.Machine.execCopyWrite s
  | .descriptorWriteBack => Sys2Proof.Machine.execDescriptorWriteBack s
  | .armWrite => Sys2Proof.Machine.execArmWrite s
  | .reportHanding => Sys2Proof.Machine.execReportHanding s

end Sys2Proof.Machine
end

