-- ==== Sys2Proof/Machine/Upstream.lean ====
section
/-!
DEFINITION. An upstream request as the system-on-chip makes it, its beats (R149), and the row of the
table each beat is (R150, R151).
-/
namespace Sys2Proof.Machine

/-- A request of the upstream port: stream, start address, and for each of its 1 to 4 beats the direction
with the data of a write (R149). -/
structure UpRequest where
  stream : Fin 16
  start : Addr
  beats : List BeatOp
  deriving DecidableEq, Repr

/-- Beat `i` and the ones after it: consecutive ascending addresses, wrapping to 0 past 2^40 − 1; the last
one carries the mark (R149). -/
def UpRequest.itemsFrom (r : UpRequest) (i : Nat) : List BeatOp → List UpItem
  | [] => []
  | op :: rest =>
    .beat ⟨r.stream, rest.isEmpty⟩ (r.start + BitVec.ofNat 40 (64 * i)) op :: r.itemsFrom (i + 1) rest

/-- The beats of a request, in order (R149). -/
def UpRequest.items (r : UpRequest) : List UpItem := r.itemsFrom 0 r.beats

/-- The command a beat is, by the class of its address now (R150, R151). A LIVE write beat is given whole;
the rows of single requests are those of beats that write one request word. -/
def State.commandOf (s : State) (p : PortTag) (a : Addr) (op : BeatOp) : Instr :=
  match s.classify (beatBase a), op with
  | .config, .write d en => .configWrite p a d en
  | .config, .read => .plainBeat p a .read
  | .descriptor, .write d en => .descriptorWrite p a d en
  | .descriptor, .read => .plainBeat p a .read
  | .live, .write d en => .liveWriteAbsorbed p a d en
  | .live, .read => .attentionSummaryRead p a
  | .ring, op => .plainBeat p a op
  | .plain, op => .plainBeat p a op
  | .intake _, .write d en => .intakeWriteBeat p a d en
  | .intake _, .read => .intakeReadBeat p a
  | .screen _, .write d en => .screenWriteBeat p a d en
  | .screen _, .read => .screenReadBeat p a
  | .intakeOff _, op => .intakeOffBeat p a op
  | .screenOff _, op => .screenOffBeat p a op

/-- The commands of a request's beats as the classes stand now, put at the end of the queue. -/
def State.submit (s : State) (r : UpRequest) : State :=
  { s with pending := s.pending ++ r.items.filterMap fun i =>
      match i with
      | .beat p a op => some (s.commandOf p a op)
      | _ => none }

end Sys2Proof.Machine
end

