-- ==== Sys2Proof/Safety.lean ====
section
/-!
DEFINITION. What the spec promises of every state a run reaches, in terms of the state.
-/
namespace Sys2Proof.Machine

/-- A step answers a next state (no command of this part stops it). -/
def Runs (s : State) : Prop := ∃ t, step s = .next t

/-- What stands outside the part's blocks: the commands that wait, the Timebase, the straps, DRAM and the
reads DRAM has not answered. -/
structure Outer where
  pending : List Instr
  timebase : Time
  strapBase : BitVec 24
  strapMhz : Nat
  dram : List Host.Cell
  reads : List DramRead
  deriving DecidableEq, Repr

/-- What stands outside the part's blocks. -/
def State.outer (s : State) : Outer :=
  ⟨s.pending, s.timebase, s.strapBase, s.strapMhz, s.dram, s.reads⟩

/-- No beat is held back at the upstream port (R149). -/
def State.quiet (s : State) : Prop := s.port.held = []

/-- Owner `o`'s request was taken and answered `r`: its beat is accepted, its word holds the request, its
answer word shows `r` under the request's tag, and every other word is as it was (R163, R165). -/
def Answered (s t : State) (p : PortTag) (o : Owner) (code : Byte) (f : ReqFields)
    (r : Result) : Prop :=
  t.port = (s.writeDone p).port ∧
    t.mailbox o = ((s.mailbox o).take code f).answer r ∧
    ∀ q, q ≠ o → t.mailbox q = s.mailbox q

/-- Every camera but `c` is as it was. -/
def OthersKept (s t : State) (c : CamId) : Prop := ∀ d, d ≠ c → t.cam d = s.cam d

/-- The evaluator's fields that table clearing sets are at their cleared values (R47), and it keeps no count of an
earlier RELEARN. -/
def Cleared (e' : Evaluator) : Prop :=
  e'.tiles = Vector.replicate 48 Tile.zero ∧ e'.level = 0 ∧ e'.verdict = .clean ∧
    e'.learnProgress = 0 ∧ e'.eligible = 0 ∧ e'.relearnCount = none

/-- The command answers a next state, and `P` holds of it. -/
def Gives (i : Instr) (s : State) (P : State → Prop) : Prop := ∃ t, exec i s = .next t ∧ P t

/-- The flags are those of the state: DIRTY_ANY, VIEW_LOSS, REPORTS and SNAP_BUSY by their conditions (R160). -/
def ShowsFlags (s : State) (f : SideFlags) : Prop :=
  (f.dirtyAny = true ↔ ∃ c, (s.cam c).eval.verdict = .dirty) ∧
    (f.viewLoss = true ↔ ∃ c, (s.cam c).chan = .stale ∨ (s.cam c).chan = .lost) ∧
    (f.reports = true ↔ s.ring.producer ≠ s.ring.consumer) ∧
    (f.snapBusy = true ↔ s.engine.state ≠ .idle ∧ s.engine.state ≠ .disabled)

/-! ### Beats handed and reports made -/

/-- Every queue of the arbiter but `q`, and the source last granted, are as they were. -/
def OneQueue (s t : State) (q : Queue) : Prop :=
  (∀ x, x ≠ q → t.queue x = s.queue x) ∧ t.arb.last = s.arb.last

/-- One beat was handed to queue `q`, and the arbiter is as it was besides (R157, R158). -/
def HandedTo (s t : State) (q : Queue) (a : Nat) (op : MemOp) : Prop :=
  t.queue q = s.queue q ++ [⟨s.arb.handed, a, op⟩] ∧ t.arb.handed = s.arb.handed + 1 ∧
    OneQueue s t q

/-- Ring, attention summary and arbiter are as a report of this kind, source and details leaves them
(R172; what a report leaves, the statement ReportHanded says). -/
def Reported (s t : State) (k : Kind) (src : Nat) (d0 d1 : BitVec 32) : Prop :=
  t.ring = (s.report k src d0 d1).ring ∧ t.attention = (s.report k src d0 d1).attention ∧
    t.arb = (s.report k src d0 d1).arb

/-- Ring, attention summary and arbiter are as they were. -/
def NoReport (s t : State) : Prop :=
  t.ring = s.ring ∧ t.attention = s.attention ∧ t.arb = s.arb

/-! ### Intake beats and their statistics (R8, R29 to R35) -/

/-- A write beat to index `b` of the intake window of armed camera `c` can be taken, stored or not (R8,
R150, R158). -/
def State.reaches (s : State) (c : CamId) (a : Addr) (b : Nat) : Prop :=
  s.quiet ∧ s.room .intake = true ∧ s.classify (beatBase a) = .intake c ∧
    beatBase a = (s.cam c).geom.intakeBase + b * 64

/-- The tile of pixel `i` of the beat with index `b` (R29, R32). -/
def tileOf (g : CamGeom) (b i : Nat) : Nat :=
  b / (g.w / 32) / (g.h / 6) * 8 + (b % (g.w / 32) * 32 + i) / (g.w / 8)

/-- The luma that beat `b` adds to tile `t` (R32). -/
def lumaOf (g : CamGeom) (b : Nat) (d : Beat) (t : Nat) : Nat :=
  ((List.range 32).map fun i => if tileOf g b i = t then (beatByte d (2 * i)).toNat else 0).sum

/-- The differences that beat `b` adds to tile `t`: of each pixel that neither begins a line nor a tile
column, from the pixel on its left, the carry for pixel 0 of the beat (R33). -/
def diffOf (g : CamGeom) (b carry : Nat) (d : Beat) (t : Nat) : Nat :=
  ((List.range 32).map fun i =>
    let x := b % (g.w / 32) * 32 + i
    let left : Int := if i = 0 then carry else (beatByte d (2 * i - 2)).toNat
    if x ≠ 0 ∧ x % (g.w / 8) ≠ 0 ∧ tileOf g b i = t then
      ((beatByte d (2 * i)).toNat - left).natAbs
    else 0).sum

/-- `u'` is `u` with beat `b` accumulated (R32, R33). -/
def TileStats.took (u u' : TileStats) (g : CamGeom) (b : Nat) (d : Beat) : Prop :=
  (∀ t : Fin 48, u'.sums[t] =
    ⟨u.sums[t].luma + lumaOf g b d t.val, u.sums[t].diff + diffOf g b u.carry d t.val⟩) ∧
    u'.carry = (beatByte d 62).toNat

/-- The texture of tile `t` (R35). -/
def TileStats.textureOf (u : TileStats) (g : CamGeom) (t : Fin 48) : Nat :=
  u.sums[t].diff * 256 / ((g.w / 8 - 1) * (g.h / 6))

/-- The mean of tile `t` (R35). -/
def TileStats.meanOf (u : TileStats) (g : CamGeom) (t : Fin 48) : Nat :=
  u.sums[t].luma / (g.w / 8 * (g.h / 6))

/-- The camera mean (R35). -/
def TileStats.cameraMeanOf (u : TileStats) (g : CamGeom) : Nat :=
  (u.sums.toList.map TileSum.luma).sum / (g.w * g.h)

/-- The last-values record is that of the frame `seq` whose sums the accumulators hold (R35, R36). -/
def TileStats.recorded (u : TileStats) (g : CamGeom) (seq : BitVec 32) (fit : Bool) : Prop :=
  match u.last with
  | some v =>
    v.seq = seq ∧ v.fit = fit ∧ v.camMean = u.cameraMeanOf g ∧
      ∀ t : Fin 48, v.texture[t] = u.textureOf g t ∧ v.mean[t] = u.meanOf g t
  | none => False

/-! ### Hold tags (R18, R90, 11.5) -/

/-- The tags by which a set of screen `x` holds slot `j` of camera `c`. -/
def setTags (x : ScrId) (r : SetRole) (hs : Option HoldSet) (c : CamId) (j : Nat) : BitVec 13 :=
  let first := 4 * x.val + (if r = .retiring then 2 else 0)
  match hs.bind fun h => h.cams[c] with
  | none => 0
  | some e =>
    (if e.primary = some j then 1#13 <<< first else 0) |||
      (if e.fallback = some j then 1#13 <<< (first + 1) else 0)

/-- A slot with the tags removed: TORN, and held by nobody then, it is FREE (R18). -/
def Slot.without (q : Slot) (tags : BitVec 13) : Slot :=
  let h := q.holders &&& ~~~tags
  match q.content with
  | .torn a b => ⟨if tags ≠ 0 ∧ h = 0 then .free else .torn a b, h⟩
  | c => ⟨c, h⟩

/-- A slot with the tags added. -/
def Slot.withTags (q : Slot) (tags : BitVec 13) : Slot := { q with holders := q.holders ||| tags }

/-- A slot whose active tags, those given, have become retiring ones (R90, step 3). -/
def Slot.retired (q : Slot) (tags : BitVec 13) : Slot :=
  { q with holders := (q.holders &&& ~~~tags) ||| ((q.holders &&& tags) <<< 2) }

/-- Of the cameras nothing has changed but the slots, slot `j` of camera `c` by `f c j`. -/
def SlotsBecome (s t : State) (f : CamId → Nat → Slot → Slot) : Prop :=
  ∀ c, t.cam c = { s.cam c with slots := (s.cam c).slots.mapIdx (f c) }

/-! ### The latch (R85, R90 to R95) -/

/-- The early latch applies, with the target slot `j` (R93). -/
def Camera.early (x : Camera) (j : Nat) : Prop :=
  1 ≤ x.earlyLines ∧
    match x.intake with
    | some r => r.disordered = false ∧ x.earlyLines ≤ r.linesDone ∧ r.target = some j
    | none => False

/-- The camera entry that a latch forms for a camera (R92, R93, R94). -/
def Camera.latches (x : Camera) (e : CamEntry) : Prop :=
  ((x.chan = .disarmed ∨ x.chan = .lost) → e = ⟨none, none, .fill⟩) ∧
    (x.chan ≠ .disarmed → x.chan ≠ .lost →
      (match e.primary with
        | some j =>
          (x.early j ∧ e.fallback = x.ready.getLast? ∨
            (∀ k, ¬x.early k) ∧ x.ready.getLast? = some j ∧ e.fallback = none) ∧
          e.overlay = (if x.chan = .stale then .stale
            else if x.eval.verdict = .dirty then .warn else .none)
        | none => (∀ k, ¬x.early k) ∧ x.ready = [] ∧ e.fallback = none ∧ e.overlay = .fill))

/-- The layout choice: the lowest line that is active and has an entrance layout with a pane, else NORMAL
(R91). -/
def Chosen (s : State) (ls : Layouts) : LayoutChoice → Prop
  | .entrance l =>
    ((s.line l).accepted = true ∧ ls.entrance[l].count ≠ 0) ∧
      ∀ m < l, (s.line m).accepted = false ∨ ls.entrance[m].count = 0
  | .normal => ∀ m, (s.line m).accepted = false ∨ ls.entrance[m].count = 0

/-- An entry in flight under the active set goes on under the retiring one. -/
def Entry.retired (e : Entry) : Entry :=
  match e.state with
  | .fetching .active plan n => { e with state := .fetching .retiring plan n }
  | _ => e

/-- The committed layouts once a pending COMMIT has been applied (R85; R90, step 1). -/
def Screen.layoutsNow (y : Screen) : Layouts :=
  if y.pendingCommit.isSome then y.cfg.staged else y.committed

/-- The active set stays as the retiring one: some read beat is in flight under it (R95). -/
def Screen.keepsOld (y : Screen) : Bool := y.active.isSome && y.table.any (·.under .active)

/-- The set a latch makes from layout choice `choice` (R90, steps 2 and 4). -/
def State.setMade (s : State) (y : Screen) (choice : LayoutChoice) (hs : HoldSet) : Prop :=
  hs.choice = choice ∧ hs.layout = y.layoutsNow.get choice ∧ hs.border = y.cfg.borderUsed ∧
    hs.background = y.cfg.background ∧ hs.lost = y.cfg.lost ∧ hs.stale = y.cfg.stale ∧
    hs.warn = y.cfg.warn ∧
    ∀ c : CamId, match hs.cams[c] with
      | some e => hs.layout.uses c = true ∧ (s.cam c).latches e
      | none => hs.layout.uses c = false

/-- What a latch does to the slots: the old set's tags become retiring ones, or go where it is released at
once, and the new set's tags come (R90, R95). -/
def latchTags (x : ScrId) (y : Screen) (hs : HoldSet) (c : CamId) (j : Nat) (q : Slot) : Slot :=
  let old := setTags x .active y.active c j
  (if y.keepsOld then q.retired old
    else if y.active.isSome then q.without (old ||| setTags x .retiring y.active c j) else q).withTags
    (setTags x .active (some hs) c j)

/-- The words of a screen after a pending COMMIT has ended DONE under its own tag (R85, R165). -/
def Mailbox.commitEnded (m : Mailbox) (y : Screen) : Mailbox :=
  match y.pendingCommit, m.openTag with
  | some _, some g => { m with ansTag := g, result := .done, openTag := none }
  | _, _ => m

/-- `t` is `s` after one latch of screen `x`, whose retiring set is empty (R90). -/
def Latched (s t : State) (x : ScrId) : Prop :=
  let y := s.screen x
  match (t.screen x).active, (t.screen x).choice with
  | some hs, some choice =>
    Chosen s y.layoutsNow choice ∧ s.setMade y choice hs ∧
      t.screens = (s.setScreen x
        { y with
          committed := y.layoutsNow
          pendingCommit := none
          active := some hs
          retiring := if y.keepsOld then y.active else none
          choice := some choice
          state := .running
          latchCount := y.latchCount + 1
          misuse := false
          table := if y.active.isSome then y.table.map Entry.retired else y.table }).screens ∧
      SlotsBecome s t (latchTags x y hs) ∧
      t.words = (s.setMailbox (.screen x) ((s.mailbox (.screen x)).commitEnded y)).words ∧
      (if y.choice = some choice then NoReport s t
        else Reported s t .layoutChanged x.val (detail (choiceCode y.choice) choice.code 0)
          (y.latchCount + 1)) ∧
      t = { s with
        cams := t.cams
        screens := t.screens
        words := t.words
        ring := t.ring
        attention := t.attention
        arb := t.arb }
  | _, _ => False

/-! ### Upstream responses (R149, R156, R161) -/

/-- `p'` is the port once a beat with the tag `t` has been accepted, `b` what it adds to its response: every open
request of its stream and direction takes it, and is closed by a last beat; where none is open it begins a
request, behind all others. Nothing is returned (R149; that a beat belongs to the open request is log entry 19). -/
def Port.accepted (p : Port) (t : PortTag) (isWrite : Bool) (b : List (Option RespBeat)) (p' : Port) : Prop :=
  let mine := fun r : Resp => r.stream = t.stream ∧ r.isWrite = isWrite ∧ r.closed = false
  p'.returned = p.returned ∧ p'.held = p.held ∧
    if ∃ r ∈ p.waiting, mine r then
      p'.nextId = p.nextId ∧ p'.waiting.length = p.waiting.length ∧
        ∀ (i : Nat) (r : Resp), p.waiting[i]? = some r → ∃ r', p'.waiting[i]? = some r' ∧
          (mine r → r' = { r with beats := r.beats ++ b, closed := t.last }) ∧ (¬mine r → r' = r)
    else
      p'.nextId = p.nextId + 1 ∧ p'.waiting = p.waiting ++ [⟨p.nextId, t.stream, isWrite, b, t.last⟩]

/-- `o` is the place of the read beat with tag `t` that the port has just accepted, its response beat `b`: the last of
its own request (R161). -/
def Port.placed (p : Port) (t : PortTag) (b : Option RespBeat) (o : RespRef) : Prop :=
  ∃ r ∈ p.waiting, r.id = o.req ∧ r.stream = t.stream ∧ r.isWrite = false ∧ r.closed = t.last ∧
    r.beats.length = o.beat + 1 ∧ r.beats[o.beat]? = some b

/-- `p'` is the port once the beat `b` has been formed at the place `o`: it stands there in its own request, and
every other beat of every request is as it was (R161). -/
def Port.formed (p : Port) (o : RespRef) (b : RespBeat) (p' : Port) : Prop :=
  p'.returned = p.returned ∧ p'.held = p.held ∧ p'.nextId = p.nextId ∧
    p'.waiting.length = p.waiting.length ∧
    ∀ (i : Nat) (r : Resp), p.waiting[i]? = some r →
      ∃ r', p'.waiting[i]? = some r' ∧ r' = { r with beats := r'.beats } ∧
      (r.id ≠ o.req → r'.beats = r.beats) ∧
      (r.id = o.req → r'.beats.length = r.beats.length ∧
        ∀ k, r'.beats[k]? = if k = o.beat ∧ k < r.beats.length then some (some b) else r.beats[k]?)

/-- The response is ready: its last beat has been accepted, and each of its beats is formed. A write's has no beats
(R149, R156). -/
def Resp.ready (r : Resp) : Prop := r.closed = true ∧ ∀ b ∈ r.beats, b ≠ none

/-- `p'` is the port once the responses whose turn has come are returned: of each stream, those at its front that
are ready, in acceptance order, up to the first that is not; every other request waits on, in its order (R156). -/
def Port.flushed (p p' : Port) : Prop :=
  p'.held = p.held ∧ p'.nextId = p.nextId ∧ p'.waiting.Sublist p.waiting ∧
    ∃ out, p'.returned = p.returned ++ out ∧ out.Sublist p.waiting ∧ (∀ r ∈ out, r.ready) ∧
      ∀ k : Fin 16,
        let mine := fun r : Resp => r.stream == k
        p.waiting.filter mine = out.filter mine ++ p'.waiting.filter mine ∧
          ∀ r, (p'.waiting.filter mine).head? = some r → ¬r.ready

/-! ### The plan of a beat (R105 to R115) -/

/-- Entry `p` is a drawn pane of camera `c` (R84, R106). -/
def Pane.draws (p : Pane) (c : CamId) : Prop :=
  p.camera.toNat % 8 = c.val ∧ 2 ≤ p.width.toNat / 2 * 2 ∧ 1 ≤ p.height.toNat

/-- Its unclipped rectangle holds pixel `x` of line `y` (R107). -/
def Pane.spans (p : Pane) (x y : Nat) : Prop :=
  p.x.toNat / 2 * 2 ≤ x ∧ x < p.x.toNat / 2 * 2 + p.width.toNat / 2 * 2 ∧
    p.y.toNat ≤ y ∧ y < p.y.toNat + p.height.toNat

/-- The pane entry in use with index `i` covers pixel `x` of line `y` (R107). -/
def Layout.coveredBy (l : Layout) (x y : Nat) (i : Fin 8) : Prop :=
  i.val < l.count.toNat ∧ (∃ c, l.panes[i].draws c) ∧ l.panes[i].spans x y

/-- A macropixel at `dx`, `dy` of a pane lies in the border band of width `w` (R110). -/
def Pane.borders (p : Pane) (w dx dy : Nat) : Bool :=
  decide (dx < w ∨ p.width.toNat / 2 * 2 - 2 - dx < w ∨ dy < w ∨ p.height.toNat - 1 - dy < w)

/-- A decimation field as used: 0 as 1, 5 to 7 as 4 (R106). -/
def decimated (b : Byte) : Nat := max 1 (min 4 (b.toNat % 8))

/-- The item is the source macropixel at column `sx`, line `sy` of slot `j` of camera `c` (R113), its lumas to be
exchanged where `swap` says so (R112). -/
def Camera.sources (x : Camera) (c : CamId) (j sx sy : Nat) (swap : Bool) (it : PlanItem) : Prop :=
  let stride := (x.geom.w * x.geom.h * 2 + 4095) / 4096 * 4096
  it = .source ⟨c, j, x.geom.slotBase + j * stride + (sy * x.geom.w + sx) * 2, swap⟩ none

/-- The item of a picture macropixel, by the slot that holds its line: the primary, else the fallback, else the
background colour of the set (R114). -/
def Camera.pictures (x : Camera) (c : CamId) (e : CamEntry) (background : Macropixel) (sx sy : Nat)
    (swap : Bool) (it : PlanItem) : Prop :=
  ∀ j q, e.primary = some j → x.slots[j]? = some q →
    match q.content with
    | .free => True
    | .ready _ _ => x.sources c j sx sy swap it
    | .filling _ n | .torn _ n =>
      if sy < n then x.sources c j sx sy swap it
      else
        match e.fallback with
        | some f => x.sources c f sx sy swap it
        | none => it = .colour background

/-- The item of the macropixel that starts at pixel `x` of line `y`, covered by pane `p` of camera `c` with
camera entry `e`: lost colour, border colour or picture (R108 to R112). -/
def State.paneShows (s : State) (hs : HoldSet) (x y : Nat) (p : Pane) (c : CamId) (e : CamEntry)
    (it : PlanItem) : Prop :=
  let dx := x - p.x.toNat / 2 * 2
  let dy := y - p.y.toNat
  let mirror := p.flags.getLsbD 0
  let across := if mirror then p.width.toNat / 2 * 2 - 2 - dx else dx
  let g := (s.cam c).geom
  let sx := min (p.srcX.toNat / 2 * 2 + across * decimated p.hdec) (g.w - 2)
  let sy := min (p.srcY.toNat + dy * decimated p.vdec) (g.h - 1)
  if e.overlay = .fill then it = .colour hs.lost
  else if p.borders hs.border dx dy ∧ e.overlay = .stale then it = .colour hs.stale
  else if p.borders hs.border dx dy ∧ e.overlay = .warn ∧ p.flags.getLsbD 1 = true then
    it = .colour hs.warn
  else (s.cam c).pictures c e hs.background sx sy mirror it

/-- The item of the macropixel that starts at pixel `x` of line `y` under a hold set: that of the covering pane
with the highest index, background where no pane covers it (R107, R108). -/
def State.itemShows (s : State) (hs : HoldSet) (x y : Nat) (it : PlanItem) : Prop :=
  ((∀ i, ¬hs.layout.coveredBy x y i) → it = .colour hs.background) ∧
    ∀ i c e, hs.layout.coveredBy x y i → (∀ k, i < k → ¬hs.layout.coveredBy x y k) →
      hs.layout.panes[i].draws c → hs.cams[c] = some e → s.paneShows hs x y hs.layout.panes[i] c e it

/-- The plan of the beat at window offset `o`: sixteen items, two pixels each, all background in the padding
(R105). -/
def State.planShown (s : State) (g : ScrGeom) (hs : HoldSet) (o : Nat) (plan : List PlanItem) : Prop :=
  plan.length = 16 ∧
    if g.ws * g.hs * 2 ≤ o then ∀ it ∈ plan, it = .colour hs.background
    else ∀ i it, plan[i]? = some it →
      s.itemShows hs (2 * (o % (2 * g.ws) / 4 + i)) (o / (2 * g.ws)) it

/-- The beats are the 64-byte source beats that a plan names, each once, in order of first appearance (R115). -/
def beatsNamed (f : List PlanItem → List (CamId × Nat × Nat)) : Prop :=
  ∀ plan, (f plan).Nodup ∧
    (∀ b, b ∈ f plan ↔
      ∃ src, PlanItem.source src none ∈ plan ∧ b = (src.cam, src.slot, src.addr / 64 * 64)) ∧
    ∀ more, f plan <+: f (plan ++ more)

/-! ### Composition (R104, R115, R116) -/

/-- Byte `k` of the macropixel of a plan item, an item still to be formed taking it from its source beat
`d` (R116). -/
def PlanItem.shows (d : Beat) (k : Nat) : PlanItem → Byte
  | .colour m => m.byte k
  | .source _ (some m) => m.byte k
  | .source src none =>
    beatByte d (src.addr % 64 + (if src.swap = true ∧ k % 2 = 0 then 2 - k else k))

/-- The response beat of a plan of 16 items, its unformed items taken from the beat `d` (R116). -/
def planShows (d : Beat) (plan : List PlanItem) (fallback : Macropixel) : Beat :=
  Vector.ofFn fun i => (plan.getD (i.val / 4) (.colour fallback)).shows d (i.val % 4)

/-- Sixteen copies of a macropixel (R104, R119). -/
def copiesOf (m : Macropixel) : Beat := Vector.ofFn fun i => m.byte (i.val % 4)

/-- The fetches were handed in order as far as the COMPOSE queue had places, and the rest wait (R115). -/
def FetchesSent (s t : State) (fs : List Fetch) : Prop :=
  let n := 16 - (s.queue .compose).length
  t.queue .compose = s.queue .compose ++
      (fs.take n).mapIdx (fun i f => ⟨s.arb.handed + i, f.addr, .read (.compose f)⟩) ∧
    t.arb.handed = s.arb.handed + (fs.take n).length ∧ OneQueue s t .compose ∧
    t.fetchWait = fs.drop n

/-- Table entry `e` of screen `x` was composed under the active set `hs` (R104 step 5, R115, R118): with a
plan of colours it is answered and gone, else it is FETCHING and its source beats are fetched, after those
that wait already (log entry 30). -/
def Composed (s t : State) (x : ScrId) (hs : HoldSet) (e : Entry) : Prop :=
  let y := s.screen x
  let plan := s.plan y.geom hs e.offset
  let fs := (planBeats plan).map fun b => (⟨x, e.id, b.1, b.2.1, b.2.2⟩ : Fetch)
  if fs = [] then
    t = { s.setScreen x { y with table := y.table.filter (·.id != e.id) } with
      port := (s.port.form e.resp
        ⟨planShows (Vector.replicate 64 0) plan hs.background, s.sideFlags⟩).flush }
  else
    t.screens = (s.setScreen x
        { y with
          table := y.table.map fun q =>
            if q.id = e.id then { q with state := .fetching .active plan fs.length } else q }).screens ∧
      FetchesSent s t (s.fetchWait ++ fs) ∧
      t = { s with screens := t.screens, arb := t.arb, fetchWait := t.fetchWait }

/-- The entries listed were composed under `hs`, one after the other (R118). -/
def ComposedAll (x : ScrId) (hs : HoldSet) : List Entry → State → State → Prop
  | [], s, t => t = s
  | e :: rest, s, t => ∃ u, Composed s u x hs e ∧ ComposedAll x hs rest u t

/-- The entries of a table that wait for an owed latch, in table order (R103). -/
def waitingOf (table : List Entry) : List Entry := table.filter fun e => e.state = .waiting

/-- The state with the slots changed, slot `j` of camera `c` by `f c j`. -/
def State.slotsBy (s : State) (f : CamId → Nat → Slot → Slot) : State :=
  { s with
    cams := Vector.ofFn fun c =>
      { s.cam c with slots := (s.cam c).slots.mapIdx (f c) } }

/-- A read beat of line `n` makes a READ_START latch fall due (R86). -/
def Screen.readDue (y : Screen) (n : Nat) : Prop :=
  y.geom.mode = .readStart ∧ (y.lastLine = none ∨ n = 0 ∧ y.lastLine ≠ some 0)

/-! ### Hardware events at the engine (R126, R131) -/

/-- The engine in LOADING of descriptor `n`, with the pending set given and nothing of a run yet (R131,
R132). -/
def Engine.loads (e : Engine) (n : DescId) (pending : BitVec 16) : Engine :=
  { e with
    state := .loading
    pending := pending
    continuation := none
    running := some n
    loaded := none
    source := none
    loadHanded := false
    armLate := false
    copy := none
    copied := false
    ended := false
    ending := .none
    cut := false
    run := e.run + 1 }

/-- What a hardware event does to the engine: every descriptor whose trigger copy matches joins the pending
set, or raises the coalesced count; an IDLE engine loads the lowest of them (R126, R131). -/
def Engine.takesEvent (e e' : Engine) (ev : HwEvent) : Prop :=
  if e.state = .idle then
    e.enable = true → e.pending = 0 → e.continuation = none →
      match allDescs.find? fun n => (e.copyOf n).hit ev with
      | none => e' = e
      | some n =>
        e' = e.loads n e'.pending ∧
          ∀ m, e'.isPending m = ((e.copyOf m).hit ev && m != n)
  else
    (∀ n, e'.isPending n = (e.isPending n || (e.copyOf n).hit ev)) ∧
      e'.coalesced.toNat = min 65535
        (e.coalesced.toNat + allDescs.countP fun n => e.isPending n && (e.copyOf n).hit ev) ∧
      e' = { e with pending := e'.pending, coalesced := e'.coalesced }

/-! ### Learning and watching (R50 to R57) -/

/-- A baseline moved toward a texture with a shift (R51). -/
def movedBaseline (b t shift : Nat) : Nat :=
  if b < t then b + max 1 ((t - b) / 2 ^ shift)
  else if t < b then b - max 1 ((b - t) / 2 ^ shift)
  else b

/-- `x'` is tile `x` after a watching step with texture `t` and mean `m` (R52 to R56). -/
def Tile.watched (x x' : Tile) (cfg : CamSettings) (t m : Nat) : Prop :=
  let vote := decide ((cfg.minTextureUsed ≤ x.baseline ∧ t * 16 < x.baseline * cfg.dirtRatioUsed) ∨
    m < cfg.blockFloor.toNat)
  let shifted : History := ⟨x.history.middle, x.history.newest, vote⟩
  x'.history =
      (if cfg.patternOn = true ∧ shifted = ⟨false, true, false⟩ then ⟨false, false, false⟩
        else if cfg.patternOn = true ∧ shifted = ⟨true, false, true⟩ then ⟨true, true, true⟩
        else shifted) ∧
    x'.count =
      (if x'.history.middle = true ∧ x'.history.newest = true then min 255 (x.count + 1)
        else x.count - 1) ∧
    (x'.confirmed = true ↔ cfg.confirmUsed ≤ x'.count) ∧
    x'.baseline = if vote = true then x.baseline else movedBaseline x.baseline t cfg.watchShiftUsed

/-- The verdict that follows `old` at level `n` (R57). -/
def verdictAfter (cfg : CamSettings) (old : Verdict) (n : Nat) : Verdict :=
  match old with
  | .dirty => if cfg.clearUsed < n then .dirty else if n = 0 then .clean else .suspect
  | _ => if n = 0 then .clean else if n < cfg.warnUsed then .suspect else .dirty

/-! ### Bytes of records (R154, R178, 11.2) -/

/-- A byte after the merge of a write beat. -/
def mergedByte (d : Beat) (en : Enables) (off : Nat) (old : Byte) : Byte :=
  if en.getLsbD off then beatByte d off else old

/-- A little-endian field of `size` bytes after the merge of a write beat: each enabled byte is the beat's,
every other is the field's own (R154). -/
def mergedLe (d : Beat) (en : Enables) (off : Nat) : Nat → Nat → Nat
  | 0, _ => 0
  | size + 1, old =>
    (mergedByte d en off (BitVec.ofNat 8 old)).toNat + 256 * mergedLe d en (off + 1) size (old / 256)

/-- Where the request word of an owner lies in its beat (R163, 11.5). -/
def wordAt : Owner → Nat
  | .part => 0
  | .camera c => c.val * 4
  | .screen x => 0x18 + x.val * 4
  | .engine => 0x24

/-! ### Invariants -/

/-- No timer stands at a time that is past: a timer that runs is set to a time ahead, or to the present one
(R162). -/
def State.timersAhead (s : State) : Prop :=
  ∀ x e, s.timer x = some e → (e - s.timebase).toNat < 2 ^ 31

/-- DRAM is in its canonical form. -/
def State.dramWf (s : State) : Prop := Memory.wf s.dram

/-- No queue of the arbiter holds more than 16 beats (R158). -/
def State.queuesBounded (s : State) : Prop := ∀ q : Queue, (s.queue q).length ≤ 16

/-- No composition table holds more than 32 entries (R103). -/
def State.tablesBounded (s : State) : Prop := ∀ sc : ScrId, (s.screen sc).table.length ≤ 32

/-- The ring's occupancy is at most 63 (R171). -/
def State.ringBounded (s : State) : Prop := s.ring.occupancy ≤ 63

/-- Frames started are those completed, those truncated and the one in progress (R20). -/
def Camera.counted (x : Camera) : Prop :=
  x.started = x.completed + x.truncated + (if x.intake.isSome then 1 else 0)

/-- Every camera's frame counters agree (R20). -/
def State.counted (s : State) : Prop := ∀ c : CamId, (s.cam c).counted

/-- A slot carries the SNAP tag only while the engine is COPYING from that slot (R129). -/
def State.snapHeld (s : State) : Prop :=
  ∀ (c : CamId) (j : Nat) (x : Slot), (s.cam c).slots[j]? = some x →
    x.holders.getLsbD snapTag = true →
    s.engine.state = .copying ∧ s.engine.source = some (c, j)

/-- An evaluator's level is the number of its confirmed tiles, and its verdict is CLEAN exactly at level 0
(R55, R57, R69). -/
def Evaluator.judged (e : Evaluator) : Prop :=
  e.level = confirmedCount e.tiles ∧ (e.verdict = .clean ↔ e.level = 0)

/-- Every camera's evaluator is so. -/
def State.judged (s : State) : Prop := ∀ c : CamId, (s.cam c).eval.judged

/-- A screen's answer word is open exactly while a COMMIT of the screen is pending, under that COMMIT's
tag; the words of cameras and the engine are never open (R85, R164, R165). -/
def State.wordsAgree (s : State) : Prop :=
  (∀ sc : ScrId, (s.mailbox (.screen sc)).openTag = (s.screen sc).pendingCommit) ∧
    (∀ c : CamId, (s.mailbox (.camera c)).openTag = none) ∧ (s.mailbox .engine).openTag = none

end Sys2Proof.Machine
end

