-- ==== Sys2Proof/Certificates/Slice0/Obligations.lean ====
section
/-!
DEFINITION. The statements for the provers. `s.quiet` says that no beat is held back at the upstream port;
a frame is written as the state with the fields named taken from the next state, or as an equation of the
whole state.
-/

open Sys2Proof
open Sys2Proof.Machine

/-! ### One step -/

/-- A step runs the command at the front of the queue on the state with the queue's rest; with no command
waiting the part idles (the model's choice, log entry 3). -/
def Obligations.StepRunsFrontOrIdles : Prop :=
  ∀ (s : State) (i : Instr) (rest : List Instr),
    step { s with pending := i :: rest } = exec i { s with pending := rest } ∧
      step { s with pending := [] } = .next { s with pending := [] }

/-! ### Reset and the Timebase -/

/-- R27, R147: every camera, and the engine, after a power-on reset, whatever the state before, the straps
and the inputs. -/
def Obligations.PowerOnResetBlocks : Prop :=
  ∀ (s : State) (straps : Straps) (pins : Pins),
    ∃ t, exec (.powerOnReset straps pins) s = .next t ∧
      (∀ c, (t.cam c).chan = .disarmed ∧ (t.cam c).slots = List.replicate 4 ⟨.free, 0⟩ ∧
        (t.cam c).ready = [] ∧ (t.cam c).intake = none ∧ (t.cam c).dropRun = false ∧
        (t.cam c).started = 0 ∧ (t.cam c).completed = 0 ∧ (t.cam c).truncated = 0 ∧
        (t.cam c).dropped = 0 ∧ (t.cam c).staleTimer = none ∧ (t.cam c).lostTimer = none ∧
        (t.cam c).gapTimer = none ∧ (t.cam c).geom = ⟨0, 0, 0, 0, 4⟩ ∧
        (t.cam c).cfg = CamSettings.default) ∧
      t.engine.state = .disabled ∧ t.engine.enable = false ∧ t.engine.pending = 0 ∧
      t.engine.continuation = none ∧ t.engine.held = [] ∧ t.engine.running = none ∧
      t.engine.loaded = none ∧ t.engine.source = none ∧ t.engine.coalesced = 0 ∧
      (∀ n : DescId, (t.engine.copyOf n).enabled = false ∧ (t.engine.copyOf n).isArmed = false ∧
        (t.engine.copyOf n).trigger = .none ∧ (t.engine.copyOf n).cameraNat = 0 ∧
        (t.engine.copyOf n).remaining = 0) ∧
      t.dram = s.dram

/-- A layout with pane count 0 and every pane field 0 (R84). -/
def Sys2Proof.Claim.emptyLayout (l : Layout) : Prop :=
  l.count = 0 ∧ ∀ i : Fin 8, l.panes[i] = ⟨0, 0, 0, 0, 0, 0, 0, 0, 0, 0⟩

/-- Five empty layouts. -/
def Sys2Proof.Claim.emptyLayouts (ls : Layouts) : Prop :=
  Claim.emptyLayout ls.normal ∧ ∀ i : Fin 4, Claim.emptyLayout ls.entrance[i]

/-- R80: the power-on defaults of the working screen settings. -/
def Sys2Proof.Claim.screenDefaults (w : ScrSettings) : Prop :=
  w.base = 0 ∧ w.ws = 0 ∧ w.hs = 0 ∧ w.mode = .readStart ∧ w.latchMode = 0 ∧ w.falling = false ∧
    w.syncEdge = 0 ∧ w.offsetTime = 0 ∧ w.cyclePeriod = 20000 ∧ w.border = 4 ∧
    w.background = ⟨16, 128, 16, 128⟩ ∧ w.lost = ⟨128, 128, 128, 128⟩ ∧
    w.stale = ⟨210, 16, 210, 146⟩ ∧ w.warn = ⟨81, 90, 81, 240⟩ ∧ Claim.emptyLayouts w.staged

/-- R78, R101, R103: lines and screens after a power-on reset take their defaults and the levels of their
inputs; a line that is high begins its filter run of 20,000 µs at Timebase 0; no slot carries a tag. -/
def Obligations.PowerOnResetLinesAndScreens : Prop :=
  ∀ (s : State) (straps : Straps) (pins : Pins),
    Gives (.powerOnReset straps pins) s fun t =>
      t.timebase = 0 ∧
      (∀ l : LineId, (t.line l).pin = pins.entrance[l] ∧ (t.line l).raw = pins.entrance[l] ∧
        (t.line l).accepted = false ∧ (t.line l).edges = 0 ∧ (t.line l).rejected = 0 ∧
        (t.line l).cfg.activeLow = false ∧ (t.line l).cfg.filterTime = 20000 ∧
        (t.line l).filterTimer = if pins.entrance[l] then some 20000 else none) ∧
      (∀ x : ScrId, Claim.screenDefaults (t.screen x).cfg ∧
        (t.screen x).geom = ⟨0, 0, 0, .readStart⟩ ∧ (t.screen x).state = .disabled ∧
        Claim.emptyLayouts (t.screen x).committed ∧ (t.screen x).pendingCommit = none ∧
        (t.screen x).active = none ∧ (t.screen x).retiring = none ∧ (t.screen x).choice = none ∧
        (t.screen x).lastLine = none ∧ (t.screen x).sync = pins.sync[x] ∧
        (t.screen x).offsetTimer = none ∧ (t.screen x).cycleTimer = none ∧
        (t.screen x).owed = false ∧ (t.screen x).latchCount = 0 ∧
        (t.screen x).ignoredSyncs = 0 ∧ (t.screen x).table = [] ∧
        (t.screen x).misuse = false ∧ (t.screen x).misuseCount = 0) ∧
      ∀ (c : CamId) (q : Slot), q ∈ (t.cam c).slots → q.holders = 0

/-- The command that a timer's running out is. -/
def Sys2Proof.Machine.Timer.command : Timer → Instr
  | .stale c => .staleTimerExpiry c
  | .lost c => .lostTimerExpiry c
  | .gap c => .gapTimerExpiry c
  | .filter l => .filterTimerExpiry l
  | .offset x => .offsetTimerExpiry x
  | .cycle x => .cycleTimerExpiry x

/-- The state as the Timebase goes on by one. With the moment a RELEARN taken in it is past: a completion falls
due together with it no more (log entry 31). -/
def Sys2Proof.Claim.nextMoment (s : State) : State :=
  { s with
    timebase := BitVec.ofNat 32 ((s.timebase.toNat + 1) % 2 ^ 32)
    cams := s.cams.map fun x => { x with eval := { x.eval with relearnCount := none } } }

/-- R162: with no timer at its expiry the tick raises the Timebase by one and changes nothing else of the spec's. -/
def Sys2Proof.Claim.TickAlone (s : State) : Prop :=
  (∀ x, s.timer x ≠ some s.timebase) → exec .timebaseTick s = .next (Claim.nextMoment s)

/-- R162: one timer at its expiry runs out, as its command has it, before the Timebase goes on. -/
def Sys2Proof.Claim.TickAfterExpiry (s : State) (x : Timer) : Prop :=
  s.timer x = some s.timebase → (∀ y, y ≠ x → s.timer y ≠ some s.timebase) →
    Gives x.command s fun u => exec .timebaseTick s = .next (Claim.nextMoment u)

/-- R162: the tick raises the Timebase by one, modulo 2^32. A timer that stands at its expiry and that no
command has taken runs out first (log entry 4); with none, nothing else of the spec's changes (log entry 31 for
the model's own count of a RELEARN). -/
def Obligations.TickRaisesTimebase : Prop :=
  (∀ s : State, Gives .timebaseTick s fun t =>
    t.timebase = BitVec.ofNat 32 ((s.timebase.toNat + 1) % 2 ^ 32)) ∧
  (∀ s, Claim.TickAlone s) ∧ ∀ s x, Claim.TickAfterExpiry s x

/-! ### Entrance lines -/

/-- R73: a change of a pin forms the raw level; back at the accepted level it cancels a filter run and
counts it; away from it, with a filter time of 1 µs or more, it starts one, and with filter time 0 it forms
an edge at once, which the engine takes (R126). Nothing else changes. -/
def Obligations.PinChangeFilters : Prop :=
  ∀ (s : State) (l : LineId) (level : Bool), s.quiet → (s.line l).pin ≠ level →
    let x := s.line l
    let raw := level != x.cfg.activeLow
    (raw = x.accepted →
      exec (.entrancePinChange l level) s = .next (s.setLine l
        { x with
          pin := level
          raw := raw
          filterTimer := none
          rejected := if x.filterTimer.isSome then x.rejected + 1 else x.rejected })) ∧
    (raw ≠ x.accepted → x.cfg.filterTime ≠ 0 →
      exec (.entrancePinChange l level) s = .next (s.setLine l
        { x with
          pin := level
          raw := raw
          filterTimer := some (s.timebase + x.cfg.filterTime.setWidth 32) })) ∧
    (raw ≠ x.accepted → x.cfg.filterTime = 0 →
      ∃ t, exec (.entrancePinChange l level) s = .next t ∧
        t.lines = (s.setLine l
          { x with
            pin := level
            raw := raw
            accepted := raw
            filterTimer := none
            edges := x.edges + 1 }).lines ∧
        s.engine.takesEvent t.engine (.edge l raw) ∧
        t = { s with lines := t.lines, engine := t.engine })

/-- R74, R126, R131: a filter timer that runs out forms an edge, and every descriptor whose trigger copy
matches the edge joins the pending set, the lowest being loaded by an IDLE engine; the rest of the part is as
it was. -/
def Obligations.FilterExpiryFormsEdge : Prop :=
  ∀ (s : State) (l : LineId), s.quiet → (s.line l).filterTimer = some s.timebase →
    (s.line l).raw ≠ (s.line l).accepted →
    Gives (.filterTimerExpiry l) s fun t =>
      t.lines = (s.setLine l
        { s.line l with
          accepted := (s.line l).raw
          filterTimer := none
          edges := (s.line l).edges + 1 }).lines ∧
      s.engine.takesEvent t.engine (.edge l (s.line l).raw) ∧
      t = { s with lines := t.lines, engine := t.engine }

/-! ### Camera timers -/

/-- No BURST of camera `c` waits for a frame (R136). -/
def Sys2Proof.Claim.noBurst (s : State) (c : CamId) : Prop :=
  s.engine.state = .waitingFrame → ∀ d, s.engine.loaded = some d → d.camera ≠ c.val

/-- A BURST of camera `c`, descriptor `n` with the loaded copy `d`, waits for a frame (R136). -/
def Sys2Proof.Claim.burst (s : State) (c : CamId) (n : DescId) (d : Loaded) : Prop :=
  s.engine.state = .waitingFrame ∧ s.engine.running = some n ∧ s.engine.loaded = some d ∧
    d.camera = c.val

/-- The engine `e` with its wait for a frame of the BURST `d` ended: STORING, the last result STALE (R136). -/
def Sys2Proof.Claim.burstEnded (e : Engine) (d : Loaded) : Engine :=
  { e with state := .storing, loaded := some { d with lastResult := 5 }, ended := true }

/-- SNAP_ENDED with cause STALE for the BURST `d` of descriptor `n`, after the reports of `u` (R141). -/
def Sys2Proof.Claim.burstReported (u t : State) (n : DescId) (d : Loaded) : Prop :=
  Reported u t .snapEnded n.val (detail 5 d.camera d.remaining.toNat) d.lastSeq

/-- What the camera's entry into STALE makes of its evaluator: LEARN and WATCH hold, HOLD has the cause STALE
too, and a wait for restart counts anew (R49, R63). -/
def Sys2Proof.Claim.staleEval (e : Evaluator) : Evaluator :=
  match e.state with
  | .off => e
  | .learn => { e with state := .hold false true .learn }
  | .watch => { e with state := .hold false true .watch }
  | .hold paused _ resume => { e with state := .hold paused true resume }
  | .restartWait => { e with restartCount := 0 }

/-- The camera has entered STALE. -/
def Sys2Proof.Claim.enteredStale (x : Camera) : Camera :=
  { x with chan := .stale, staleTimer := none, eval := Claim.staleEval x.eval }

/-- R3, R5, R63: a LIVE camera whose stale timer runs out, no BURST of it waiting. -/
def Sys2Proof.Claim.StaleEntered (s : State) (c : CamId) : Prop :=
  s.quiet → (s.cam c).staleTimer = some s.timebase → (s.cam c).chan = .live → Claim.noBurst s c →
    Gives (.staleTimerExpiry c) s fun t =>
      t.cam c = Claim.enteredStale (s.cam c) ∧
        t.attention = { s.attention with camera := true } ∧
        Reported s t .camStale c.val (detail 2 0 0) (s.cam c).completed ∧
        s.engine.takesEvent t.engine (.stale c) ∧ OthersKept s t c ∧
        t = { s with
          cams := t.cams
          engine := t.engine
          ring := t.ring
          attention := t.attention
          arb := t.arb }

/-- R136, R141: a camera that enters STALE while a BURST waits for its next frame ends the wait: the run is
STORING with last result STALE, and SNAP_ENDED follows CAM_STALE. The engine has taken the event first. -/
def Sys2Proof.Claim.StaleEndsBurst (s : State) (c : CamId) (n : DescId) (d : Loaded) : Prop :=
  s.quiet → (s.cam c).staleTimer = some s.timebase → (s.cam c).chan = .live → Claim.burst s c n d →
    Gives (.staleTimerExpiry c) s fun t =>
      t.cam c = Claim.enteredStale (s.cam c) ∧
        (∃ e, s.engine.takesEvent e (.stale c) ∧ t.engine = Claim.burstEnded e d) ∧
        Claim.burstReported (s.report .camStale c.val (detail 2 0 0) (s.cam c).completed) t n d ∧
        OthersKept s t c ∧
        t = { s with
          cams := t.cams
          engine := t.engine
          ring := t.ring
          attention := t.attention
          arb := t.arb }

/-- R3, R5, R63, R126, R136, R141: a stale timer that runs out in LIVE makes the camera STALE, and its evaluator
holds, or counts its wait for restart anew; CAM_STALE is reported and the CAMERA_STALE triggers are fired; a
BURST that waits for a frame of the camera ends; the rest of the part is as it was. -/
def Obligations.StaleExpiryEntersStale : Prop :=
  (∀ s c, Claim.StaleEntered s c) ∧ ∀ s c n d, Claim.StaleEndsBurst s c n d

/-- The entry into LOST takes the evaluator into RESTART_WAIT: recovery RELEARN, in LEARN, WATCH or HOLD (R65). -/
def Sys2Proof.Claim.relearns (x : Camera) : Bool :=
  !x.cfg.keep &&
    match x.eval.state with
    | .off | .restartWait => false
    | _ => true

/-- What the camera's entry into LOST makes of its evaluator: with RELEARN it waits, its tables cleared; with
KEEP, OFF or in RESTART_WAIT it does as at an entry into STALE (R47, R65). -/
def Sys2Proof.Claim.lostEval (x : Camera) (e : Evaluator) : Prop :=
  if Claim.relearns x = true then
    Cleared e ∧ e.state = .restartWait ∧ e.restartCount = 0 ∧ e.mode = x.eval.mode ∧
      e.unfit = x.eval.unfit
  else e = Claim.staleEval x.eval

/-- Camera `c` has entered LOST; a table clearing raises the map count (R169). -/
def Sys2Proof.Claim.enteredLost (s t : State) (c : CamId) : Prop :=
  Claim.lostEval (s.cam c) (t.cam c).eval ∧
    t.cam c =
      { s.cam c with
        chan := .lost
        staleTimer := none
        lostTimer := none
        eval := (t.cam c).eval
        mapCount :=
          if Claim.relearns (s.cam c) = true then (s.cam c).mapCount + 1 else (s.cam c).mapCount }

/-- The state after the reports of an entry into LOST: CAM_LOST, and VERDICT where the tables were cleared and
the verdict was not CLEAN (R5, R47, R65). -/
def Sys2Proof.Claim.lostReported (s : State) (c : CamId) : State :=
  let x := s.cam c
  let u := s.report .camLost c.val (detail x.chan.code 0 0) x.completed
  if Claim.relearns x = true ∧ x.eval.verdict ≠ .clean then
    u.report .verdict c.val (word32 x.eval.verdict.code 0 0 0) 0
  else u

/-- The lost timer of a camera that is WAITING, LIVE or STALE runs out now. -/
def Sys2Proof.Claim.lostDue (s : State) (c : CamId) : Prop :=
  s.quiet ∧ (s.cam c).lostTimer = some s.timebase ∧
    ((s.cam c).chan = .waiting ∨ (s.cam c).chan = .live ∨ (s.cam c).chan = .stale)

/-- R3, R4, R5, R65: no BURST of the camera waits. -/
def Sys2Proof.Claim.LostEntered (s : State) (c : CamId) : Prop :=
  Claim.lostDue s c → Claim.noBurst s c → Gives (.lostTimerExpiry c) s fun t =>
    Claim.enteredLost s t c ∧ t.attention.camera = true ∧ NoReport (Claim.lostReported s c) t ∧
      OthersKept s t c ∧
      t = { s with
        cams := t.cams
        ring := t.ring
        attention := t.attention
        arb := t.arb }

/-- R136, R141: a BURST that waits for a frame of the camera ends at the entry into LOST, after its reports. -/
def Sys2Proof.Claim.LostEndsBurst (s : State) (c : CamId) (n : DescId) (d : Loaded) : Prop :=
  Claim.lostDue s c → Claim.burst s c n d → Gives (.lostTimerExpiry c) s fun t =>
    Claim.enteredLost s t c ∧ t.engine = Claim.burstEnded s.engine d ∧
      Claim.burstReported (Claim.lostReported s c) t n d ∧ OthersKept s t c ∧
      t = { s with
        cams := t.cams
        engine := t.engine
        ring := t.ring
        attention := t.attention
        arb := t.arb }

/-- R3, R4, R5, R47, R65, R136, R141: a lost timer that runs out makes an armed camera LOST, its stale timer idle.
With recovery KEEP an evaluator in LEARN, WATCH or HOLD holds with cause STALE; with RELEARN it waits with
cleared tables, and VERDICT follows CAM_LOST where the verdict was not CLEAN; a wait for restart counts anew; a
BURST that waits for the camera ends. That the map count rises where the tables were clear already is log entry
9, the model's reading of R169. -/
def Obligations.LostExpiryEntersLost : Prop :=
  (∀ s c, Claim.LostEntered s c) ∧ ∀ s c n d, Claim.LostEndsBurst s c n d

/-- The camera after the truncation of a frame that fills slot `j`: the slot is TORN where it is held and FREE
where it is not, the truncated counter is up, record, gap timer and sums are gone (R16, R31). -/
def Sys2Proof.Claim.truncated (x : Camera) (j : Nat) (q : BitVec 32) (n : Nat) (h : BitVec 13) : Camera :=
  { x with
    slots := x.slots.set j (if h = 0 then ⟨.free, h⟩ else ⟨.torn q n, h⟩)
    truncated := x.truncated + 1
    intake := none
    gapTimer := none
    stats := { x.stats with sums := Vector.replicate 48 ⟨0, 0⟩, carry := 0 } }

/-- A frame of the camera is in progress and fills slot `j` (R7, R17). -/
def Sys2Proof.Claim.fills (x : Camera) (r : IntakeRec) (j : Nat) (q : BitVec 32) (n : Nat)
    (h : BitVec 13) : Prop :=
  x.intake = some r ∧ r.target = some j ∧ x.slots[j]? = some ⟨.filling q n, h⟩

/-- R14, R16: a gap timer that runs out truncates the frame in progress: the target slot becomes TORN where
it is held and FREE where it is not, the truncated counter rises, record and timer are gone. -/
def Obligations.GapExpiryTruncates : Prop :=
  ∀ (s : State) (c : CamId) (r : IntakeRec) (j : Nat) (q : BitVec 32) (n : Nat) (h : BitVec 13),
    s.quiet → (s.cam c).gapTimer = some s.timebase →
    Claim.fills (s.cam c) r j q n h →
    ∃ t, exec (.gapTimerExpiry c) s = .next t ∧
      t.cam c = Claim.truncated (s.cam c) j q n h ∧
      t.attention = { s.attention with camera := true } ∧
      Reported s t .frameTruncated c.val (detail 0 0 r.linesDone) r.seq ∧ OthersKept s t c ∧
      t = { s with cams := t.cams, ring := t.ring, attention := t.attention, arb := t.arb }

/-! ### Beats of an intake window -/

/-- The statistics of a frame that has begun with the full beat 0: cleared, then that beat accumulated; the
last-values record is kept (R9, step 5, R31 to R33). -/
def Sys2Proof.Claim.statsBegun (x x' : Camera) (d : Beat) : Prop :=
  ({ x.stats with sums := Vector.replicate 48 ⟨0, 0⟩, carry := 0 } : TileStats).took x'.stats x.geom 0 d ∧
    x'.stats.last = x.stats.last

/-- R9, R10, R12: a full beat 0 with no frame in progress takes the lowest FREE slot that nobody holds; the
started counter rises, the record is new, the beat goes to the slot's first address. -/
def Sys2Proof.Claim.FrameTakesFree (s : State) (p : PortTag) (c : CamId) (a : Addr) (d : Beat) (j : Nat) :
    Prop :=
  s.reaches c a 0 → 2 ≤ (s.cam c).geom.beatsPerLine → 1 < (s.cam c).geom.frameBeats →
    (s.cam c).intake = none → (s.cam c).slots[j]? = some ⟨.free, 0⟩ →
    (∀ x ∈ (s.cam c).slots.take j, x.content ≠ .free ∨ x.holders ≠ 0) →
    Gives (.intakeWriteBeat p a d (BitVec.allOnes 64)) s fun t =>
      t.cam c =
          { s.cam c with
            started := (s.cam c).started + 1
            dropRun := false
            intake := some ⟨1, 0, some j, false, (s.cam c).nextSeq, s.timebase⟩
            slots := (s.cam c).slots.set j ⟨.filling (s.cam c).nextSeq 0, 0⟩
            ready := (s.cam c).ready.erase j
            stats := (t.cam c).stats
            gapTimer := some (s.timebase + BitVec.ofNat 32 (s.cam c).cfg.gapLimit) } ∧
        Claim.statsBegun (s.cam c) (t.cam c) d ∧
        HandedTo s t .intake ((s.cam c).geom.slotAddr j) (.write d (BitVec.allOnes 64)) ∧
        OthersKept s t c ∧
        t = { s with cams := t.cams, port := (s.writeDone p).port, arb := t.arb }

/-- R10, step 2: with no FREE slot that nobody holds, the oldest slot of the ready list that nobody holds is
taken off the list. -/
def Sys2Proof.Claim.FrameTakesReady (s : State) (p : PortTag) (c : CamId) (a : Addr) (d : Beat) (j : Nat)
    (q : BitVec 32) (u : Time) (pre post : List Nat) : Prop :=
  s.reaches c a 0 → 2 ≤ (s.cam c).geom.beatsPerLine → 1 < (s.cam c).geom.frameBeats →
    (s.cam c).intake = none → (∀ x ∈ (s.cam c).slots, x.content ≠ .free ∨ x.holders ≠ 0) →
    (s.cam c).ready = pre ++ j :: post →
    (∀ k ∈ pre, (s.cam c).slots[k]?.any (fun x => x.holders != 0) = true) →
    (s.cam c).slots[j]? = some ⟨.ready q u, 0⟩ →
    Gives (.intakeWriteBeat p a d (BitVec.allOnes 64)) s fun t =>
      t.cam c =
          { s.cam c with
            started := (s.cam c).started + 1
            dropRun := false
            intake := some ⟨1, 0, some j, false, (s.cam c).nextSeq, s.timebase⟩
            slots := (s.cam c).slots.set j ⟨.filling (s.cam c).nextSeq 0, 0⟩
            ready := pre ++ post
            stats := (t.cam c).stats
            gapTimer := some (s.timebase + BitVec.ofNat 32 (s.cam c).cfg.gapLimit) } ∧
        Claim.statsBegun (s.cam c) (t.cam c) d ∧
        HandedTo s t .intake ((s.cam c).geom.slotAddr j) (.write d (BitVec.allOnes 64)) ∧
        OthersKept s t c ∧
        t = { s with cams := t.cams, port := (s.writeDone p).port, arb := t.arb }

/-- R10, step 3, R11: with neither, the frame is dropped: it is counted and followed, nothing is stored, and
the first of a run of dropped frames is reported. -/
def Sys2Proof.Claim.FrameDropped (s : State) (p : PortTag) (c : CamId) (a : Addr) (d : Beat) : Prop :=
  s.reaches c a 0 → 2 ≤ (s.cam c).geom.beatsPerLine → 1 < (s.cam c).geom.frameBeats →
    (s.cam c).intake = none → (∀ x ∈ (s.cam c).slots, x.content ≠ .free ∨ x.holders ≠ 0) →
    (∀ k ∈ (s.cam c).ready, (s.cam c).slots[k]?.any (fun x => x.holders != 0) = true) →
    Gives (.intakeWriteBeat p a d (BitVec.allOnes 64)) s fun t =>
      t.cam c =
          { s.cam c with
            started := (s.cam c).started + 1
            dropRun := true
            intake := some ⟨1, 0, none, false, (s.cam c).nextSeq, s.timebase⟩
            stats := (t.cam c).stats
            gapTimer := some (s.timebase + BitVec.ofNat 32 (s.cam c).cfg.gapLimit) } ∧
        Claim.statsBegun (s.cam c) (t.cam c) d ∧
        (if (s.cam c).dropRun = true then NoReport s t
          else Reported s t .dropBegin c.val (detail (s.cam c).ready.length 0 0) (s.cam c).nextSeq) ∧
        OthersKept s t c ∧
        t = { s with
          cams := t.cams
          port := (s.writeDone p).port
          ring := t.ring
          attention := t.attention
          arb := t.arb }

/-- R9, step 1, R16: beat 0 inside a frame truncates it with cause RESTARTED before the new frame takes its
slot: a slot that somebody holds is TORN, and one that nobody holds is FREE and can be taken at once. -/
def Sys2Proof.Claim.FrameRestarted (s : State) (p : PortTag) (c : CamId) (a : Addr) (d : Beat)
    (r : IntakeRec) (k j n : Nat) (q : BitVec 32) (h : BitVec 13) : Prop :=
  s.reaches c a 0 → 2 ≤ (s.cam c).geom.beatsPerLine → 1 < (s.cam c).geom.frameBeats →
    (s.cam c).intake = some r → r.target = some k →
    (s.cam c).slots[k]? = some ⟨.filling q n, h⟩ →
    (if h = 0 then j = k else (s.cam c).slots[j]? = some ⟨.free, 0⟩) →
    (∀ x ∈ (s.cam c).slots.take j, x.content ≠ .free ∨ x.holders ≠ 0) →
    (h = 0 ∨ k ≠ j) → k ∉ (s.cam c).ready → j ∉ (s.cam c).ready →
    Gives (.intakeWriteBeat p a d (BitVec.allOnes 64)) s fun t =>
      let u := s.report .frameTruncated c.val (detail 1 0 r.linesDone) r.seq
      let n' := (s.cam c).completed + ((s.cam c).truncated + 1) + 1
      let seq := if n' = 0 then 1 else n'
      t.cam c =
          { s.cam c with
            truncated := (s.cam c).truncated + 1
            started := (s.cam c).started + 1
            dropRun := false
            intake := some ⟨1, 0, some j, false, seq, s.timebase⟩
            slots := ((s.cam c).slots.set k ⟨.torn q n, h⟩).set j ⟨.filling seq 0, 0⟩
            stats := (t.cam c).stats
            gapTimer := some (s.timebase + BitVec.ofNat 32 (s.cam c).cfg.gapLimit) } ∧
        Claim.statsBegun (s.cam c) (t.cam c) d ∧
        HandedTo u t .intake ((s.cam c).geom.slotAddr j) (.write d (BitVec.allOnes 64)) ∧
        t.ring = u.ring ∧ t.attention = u.attention ∧ OthersKept s t c ∧
        t = { s with
          cams := t.cams
          port := (s.writeDone p).port
          ring := t.ring
          attention := t.attention
          arb := t.arb }

/-- R9 to R12: what a beat 0 does: it takes the lowest FREE slot, or the oldest READY one, that nobody holds,
or starts a dropped frame; inside a frame it truncates that frame first. The accumulators are cleared and the
beat is accumulated (R31 to R33). -/
def Obligations.FrameStartTakesLowestFreeSlot : Prop :=
  (∀ s p c a d j, Claim.FrameTakesFree s p c a d j) ∧
  (∀ s p c a d j q u pre post, Claim.FrameTakesReady s p c a d j q u pre post) ∧
  (∀ s p c a d, Claim.FrameDropped s p c a d) ∧
  ∀ s p c a d r k j n q h, Claim.FrameRestarted s p c a d r k j n q h

/-- R12, R13, R14, R32, R33: a full beat at the cursor, not the frame's last, is stored at its place in the
target slot, advances the cursor, gives lines done to record and slot alike while the frame is in order, is
accumulated, and restarts the gap timer. -/
def Sys2Proof.Claim.BeatInOrder (s : State) (p : PortTag) (c : CamId) (a : Addr) (d : Beat)
    (r : IntakeRec) (j n : Nat) (q : BitVec 32) (h : BitVec 13) : Prop :=
  s.reaches c a r.cursor → r.cursor ≠ 0 → r.cursor + 1 < (s.cam c).geom.frameBeats →
    (s.cam c).intake = some r → r.target = some j →
    (s.cam c).slots[j]? = some ⟨.filling q n, h⟩ →
    let lines := if r.disordered then r.linesDone else (r.cursor + 1) / ((s.cam c).geom.w / 32)
    Gives (.intakeWriteBeat p a d (BitVec.allOnes 64)) s fun t =>
      t.cam c =
          { s.cam c with
            intake :=
              some { r with cursor := r.cursor + 1, linesDone := lines, lastBeat := s.timebase }
            slots := (s.cam c).slots.set j ⟨.filling q lines, h⟩
            stats := (t.cam c).stats
            gapTimer := some (s.timebase + BitVec.ofNat 32 (s.cam c).cfg.gapLimit) } ∧
        (s.cam c).stats.took (t.cam c).stats (s.cam c).geom r.cursor d ∧
        (t.cam c).stats.last = (s.cam c).stats.last ∧
        HandedTo s t .intake ((s.cam c).geom.slotAddr j + r.cursor * 64)
          (.write d (BitVec.allOnes 64)) ∧
        OthersKept s t c ∧
        t = { s with cams := t.cams, port := (s.writeDone p).port, arb := t.arb }

/-- R12, R13: a beat out of order, repeated or partial is stored too, and sets DISORDERED; cursor, lines done
and the accumulators stay. -/
def Sys2Proof.Claim.BeatOutOfOrder (s : State) (p : PortTag) (c : CamId) (a : Addr) (d : Beat)
    (en : Enables) (b : Nat) (r : IntakeRec) (j : Nat) (q : BitVec 32) (h : BitVec 13) : Prop :=
  s.reaches c a b → b ≠ 0 → b + 1 < (s.cam c).geom.frameBeats →
    (s.cam c).intake = some r → r.target = some j → (b ≠ r.cursor ∨ en ≠ BitVec.allOnes 64) →
    (s.cam c).slots[j]? = some ⟨.filling q r.linesDone, h⟩ →
    Gives (.intakeWriteBeat p a d en) s fun t =>
      t.cam c =
          { s.cam c with
            intake := some { r with disordered := true, lastBeat := s.timebase }
            gapTimer := some (s.timebase + BitVec.ofNat 32 (s.cam c).cfg.gapLimit) } ∧
        HandedTo s t .intake ((s.cam c).geom.slotAddr j + b * 64) (.write d en) ∧
        OthersKept s t c ∧
        t = { s with cams := t.cams, port := (s.writeDone p).port, arb := t.arb }

/-- R11, R12: a beat of a dropping frame is followed and accumulated, and nothing is stored. -/
def Sys2Proof.Claim.BeatOfDroppedFrame (s : State) (p : PortTag) (c : CamId) (a : Addr) (d : Beat)
    (r : IntakeRec) : Prop :=
  s.reaches c a r.cursor → r.cursor ≠ 0 → r.cursor + 1 < (s.cam c).geom.frameBeats →
    (s.cam c).intake = some r → r.target = none → r.disordered = false →
    let lines := (r.cursor + 1) / ((s.cam c).geom.w / 32)
    Gives (.intakeWriteBeat p a d (BitVec.allOnes 64)) s fun t =>
      t.cam c =
          { s.cam c with
            intake :=
              some { r with cursor := r.cursor + 1, linesDone := lines, lastBeat := s.timebase }
            stats := (t.cam c).stats
            gapTimer := some (s.timebase + BitVec.ofNat 32 (s.cam c).cfg.gapLimit) } ∧
        (s.cam c).stats.took (t.cam c).stats (s.cam c).geom r.cursor d ∧
        OthersKept s t c ∧ t = { s with cams := t.cams, port := (s.writeDone p).port }

/-- R11 to R14, R32, R33: a beat of the frame in progress, in order or not, of a frame that is stored or
dropped. -/
def Obligations.InOrderBeatAdvancesFrame : Prop :=
  (∀ s p c a d r j n q h, Claim.BeatInOrder s p c a d r j n q h) ∧
  (∀ s p c a d en b r j q h, Claim.BeatOutOfOrder s p c a d en b r j q h) ∧
  ∀ s p c a d r, Claim.BeatOfDroppedFrame s p c a d r

/-- The beat with the last index reaches a frame that fills slot `j` (R12, R15). -/
def Sys2Proof.Claim.LastBeat (s : State) (c : CamId) (a : Addr) (b : Nat) (r : IntakeRec) (j : Nat)
    (q : BitVec 32) (n : Nat) (h : BitVec 13) : Prop :=
  s.reaches c a b ∧ b ≠ 0 ∧ b + 1 = (s.cam c).geom.frameBeats ∧ (s.cam c).intake = some r ∧
    r.target = some j ∧ (s.cam c).slots[j]? = some ⟨.filling q n, h⟩

/-- Neither a screen nor a BURST that waits takes notice of a completion. -/
def Sys2Proof.Claim.NobodyWaits (s : State) : Prop :=
  s.engine.state ≠ .waitingFrame ∧
    ∀ x, (s.screen x).active = none ∧ (s.screen x).retiring = none

/-- The camera after a completion in slot `j`, the statistics, the evaluator and the map count left open: READY
with the present time at the tail of the ready list, completed up, timers restarted, record gone (R4, R15). -/
def Sys2Proof.Claim.completed (s t : State) (c : CamId) (j : Nat) (q : BitVec 32) (h : BitVec 13) : Camera :=
  { s.cam c with
    slots := (s.cam c).slots.set j ⟨.ready q s.timebase, h⟩
    ready := (s.cam c).ready ++ [j]
    completed := (s.cam c).completed + 1
    intake := none
    gapTimer := none
    chan := .live
    staleTimer :=
      if (s.cam c).cfg.staleTime < (s.cam c).cfg.lostTime then
        some (s.timebase + BitVec.ofNat 32 (s.cam c).cfg.staleTime)
      else none
    lostTimer := some (s.timebase + BitVec.ofNat 32 (s.cam c).cfg.lostTime)
    stats := (t.cam c).stats
    eval := (t.cam c).eval
    mapCount := (t.cam c).mapCount }

/-- R15, R4: the completion at a LIVE camera whose evaluator is OFF or holds. -/
def Sys2Proof.Claim.CompletionWhileLive (s : State) (p : PortTag) (c : CamId) (a : Addr) (d : Beat)
    (en : Enables) (b : Nat) (r : IntakeRec) (j : Nat) (q : BitVec 32) (n : Nat) (h : BitVec 13) : Prop :=
  Claim.LastBeat s c a b r j q n h → Claim.NobodyWaits s → (s.cam c).chan = .live →
    ((s.cam c).eval.state ≠ .learn ∧ (s.cam c).eval.state ≠ .watch ∧
      (s.cam c).eval.state ≠ .restartWait) →
    Gives (.intakeWriteBeat p a d en) s fun t =>
      t.cam c = Claim.completed s t c j q h ∧ (t.cam c).eval = (s.cam c).eval ∧
        (t.cam c).mapCount = (s.cam c).mapCount ∧
        (t.cam c).stats.last = (s.cam c).stats.last ∧
        HandedTo s t .intake ((s.cam c).geom.slotAddr j + b * 64) (.write d en) ∧
        OthersKept s t c ∧
        t = { s with cams := t.cams, port := (s.writeDone p).port, arb := t.arb }

/-- R3, R5, R64: the completion of a camera that was WAITING, STALE or LOST makes it LIVE with a CAM_LIVE
report and removes the evaluator's STALE cause. The evaluator is OFF or PAUSED. -/
def Sys2Proof.Claim.CompletionEntersLive (s : State) (p : PortTag) (c : CamId) (a : Addr) (d : Beat)
    (en : Enables) (b : Nat) (r : IntakeRec) (j : Nat) (q : BitVec 32) (n : Nat) (h : BitVec 13)
    (stale : Bool) (resume : Resume) : Prop :=
  Claim.LastBeat s c a b r j q n h → Claim.NobodyWaits s →
    ((s.cam c).chan = .waiting ∨ (s.cam c).chan = .stale ∨ (s.cam c).chan = .lost) →
    ((s.cam c).eval.state = .off ∨ (s.cam c).eval.state = .hold true stale resume) →
    Gives (.intakeWriteBeat p a d en) s fun t =>
      let u := s.hand .intake ((s.cam c).geom.slotAddr j + b * 64) (.write d en)
      t.cam c = Claim.completed s t c j q h ∧
        (t.cam c).eval =
          { (s.cam c).eval with
            state := if (s.cam c).eval.state = .off then .off else .hold true false resume } ∧
        (t.cam c).mapCount = (s.cam c).mapCount ∧
        Reported u t .camLive c.val (detail (s.cam c).chan.code 0 0) ((s.cam c).completed + 1) ∧
        OthersKept s t c ∧
        t = { s with
          cams := t.cams
          port := (s.writeDone p).port
          ring := t.ring
          attention := t.attention
          arb := t.arb }

/-- R11, R15, R20: the completion of a dropped frame counts as completed and as dropped, and touches neither
slots nor ready list. -/
def Sys2Proof.Claim.CompletionOfDropped (s : State) (p : PortTag) (c : CamId) (a : Addr) (d : Beat)
    (en : Enables) (b : Nat) (r : IntakeRec) : Prop :=
  s.reaches c a b → b ≠ 0 → b + 1 = (s.cam c).geom.frameBeats → (s.cam c).intake = some r →
    r.target = none → (s.cam c).chan = .live → (s.cam c).eval.state = .off →
    Gives (.intakeWriteBeat p a d en) s fun t =>
      t.cam c =
          { s.cam c with
            completed := (s.cam c).completed + 1
            dropped := (s.cam c).dropped + 1
            intake := none
            gapTimer := none
            staleTimer := (t.cam c).staleTimer
            lostTimer := some (s.timebase + BitVec.ofNat 32 (s.cam c).cfg.lostTime)
            stats := (t.cam c).stats } ∧
        OthersKept s t c ∧ t = { s with cams := t.cams, port := (s.writeDone p).port }

/-- R96: the completion removes the fallback of a set that holds the slot as primary, with its tag. No fetch
waits for a place. -/
def Sys2Proof.Claim.CompletionReleasesFallback (s : State) (p : PortTag) (c : CamId) (a : Addr) (d : Beat)
    (en : Enables) (b : Nat) (r : IntakeRec) (j : Nat) (q : BitVec 32) (n : Nat) (h : BitVec 13)
    (x : ScrId) (hs : HoldSet) (f : Nat) (ov : Overlay) (g : Slot) : Prop :=
  Claim.LastBeat s c a b r j q n h → s.engine.state ≠ .waitingFrame → (s.cam c).chan = .live →
    (s.cam c).eval.state = .off → s.fetchWait = [] →
    (∀ y, (s.screen y).retiring = none ∧ (s.screen y).active = if y = x then some hs else none) →
    hs.cams[c] = some ⟨some j, some f, ov⟩ → f ≠ j → (s.cam c).slots[f]? = some g →
    Gives (.intakeWriteBeat p a d en) s fun t =>
      (t.cam c).slots = ((s.cam c).slots.set j ⟨.ready q s.timebase, h⟩).set f
          (g.without (1#13 <<< (4 * x.val + 1))) ∧
        t.screens = (s.setScreen x
          { s.screen x with
            active := some { hs with cams := hs.cams.set c (some ⟨some j, none, ov⟩) } }).screens ∧
        (t.cam c).ready = (s.cam c).ready ++ [j] ∧
        HandedTo s t .intake ((s.cam c).geom.slotAddr j + b * 64) (.write d en) ∧
        OthersKept s t c ∧
        t = { s with
          cams := t.cams
          screens := t.screens
          port := (s.writeDone p).port
          arb := t.arb }

/-- R96, R115: a fetch to that fallback that still waits becomes a fetch of the beat at the same offset of the
primary. -/
def Sys2Proof.Claim.WaitingFetchFollows (s : State) (p : PortTag) (c : CamId) (a : Addr) (d : Beat)
    (en : Enables) (b : Nat) (r : IntakeRec) (j : Nat) (q : BitVec 32) (n : Nat) (h : BitVec 13)
    (x : ScrId) (hs : HoldSet) (f : Nat) (ov : Overlay) (e : Entry) (plan : List PlanItem) (m o : Nat) :
    Prop :=
  Claim.LastBeat s c a b r j q n h → (s.cam c).chan = .live → (s.cam c).eval.state = .off →
    s.engine.state ≠ .waitingFrame → (s.screen x).active = some hs →
    (∀ y, (s.screen y).retiring = none ∧ (y ≠ x → (s.screen y).active = none)) →
    hs.cams[c] = some ⟨some j, some f, ov⟩ →
    (s.screen x).table = [e] → e.state = .fetching .active plan m →
    s.fetchWait = [⟨x, e.id, c, f, (s.cam c).geom.slotAddr f + o⟩] →
    Gives (.intakeWriteBeat p a d en) s fun t =>
      t.fetchWait = [⟨x, e.id, c, j, (s.cam c).geom.slotAddr j + o⟩]

/-- R136: a completion that appends a slot ends the wait of a BURST of the camera: the run holds that slot and
copies on, into its next place. -/
def Sys2Proof.Claim.CompletionFeedsBurst (s : State) (p : PortTag) (c : CamId) (a : Addr) (d : Beat)
    (en : Enables) (b : Nat) (r : IntakeRec) (j : Nat) (q : BitVec 32) (n : Nat) (h : BitVec 13)
    (x : Loaded) : Prop :=
  Claim.LastBeat s c a b r j q n h → (s.cam c).chan = .live → (s.cam c).eval.state = .off →
    (∀ y, (s.screen y).active = none ∧ (s.screen y).retiring = none) →
    s.engine.state = .waitingFrame → s.engine.loaded = some x → x.camera = c.val →
    x.mode = .burst →
    Gives (.intakeWriteBeat p a d en) s fun t =>
      let g := (s.cam c).geom
      (t.cam c).slots =
          (s.cam c).slots.set j ⟨.ready q s.timebase, h ||| (1#13 <<< 12)⟩ ∧
        t.engine =
          { s.engine with
            state := .copying
            source := some (c, j)
            copy := some
              { slotAddr := g.slotAddr j, frameW := g.w, x := 0, y := 0, w := g.w, h := g.h
                placeAddr := x.destBase +
                  x.nextPlace.toNat % x.placesUsed * ((g.w * g.h * 2 + 63) / 64 * 64)
                readsSent := 0, readsBack := 0, buffer := [], written := 0 } } ∧
        OthersKept s t c ∧
        t = { s with
          cams := t.cams
          engine := t.engine
          port := (s.writeDone p).port
          arb := t.arb }

/-- The evaluator's state once the completion has made the camera LIVE: the STALE cause is gone, and with it the
hold where no other cause stands (R49, R64). -/
def Sys2Proof.Claim.resumed (x : Camera) : EvState :=
  if x.chan = .live then x.eval.state
  else
    match x.eval.state with
    | .hold true _ resume => .hold true false resume
    | .hold false _ .learn => .learn
    | .hold false _ .watch => .watch
    | st => st

/-- The state after the CAM_LIVE report of a completion that makes camera `c` LIVE; as it was where the camera
is LIVE already (R5). -/
def Sys2Proof.Claim.liveReported (u : State) (c : CamId) : State :=
  let x := u.cam c
  if x.chan = .live then u
  else u.report .camLive c.val (detail x.chan.code 0 0) (x.completed + 1)

/-- A count from which a completion may be counted: the eligibility count (R39), or, together with a RELEARN taken
first, the count which that RELEARN cleared (R68, row 1). Which of the two holds then, and what is together, is
log entry 31. -/
def Sys2Proof.Claim.counts (e : Evaluator) (n : Nat) : Prop := n = e.eligible ∨ e.relearnCount = some n

/-- The completion, of a frame that is in order to its last beat or not, is counted where it is in order, and no
frame is evaluated (R38, R39, R64). -/
def Sys2Proof.Claim.countedAlone (s t : State) (p : PortTag) (c : CamId) (d : Beat) (en : Enables) (b j : Nat)
    (q : BitVec 32) (h : BitVec 13) (ordered : Prop) [Decidable ordered] : Prop :=
  t.cam c = Claim.completed s t c j q h ∧
    (t.cam c).eval =
      { (s.cam c).eval with
        state := Claim.resumed (s.cam c)
        eligible := if ordered then (s.cam c).eval.eligible + 1 else (s.cam c).eval.eligible
        relearnCount := if ordered then none else (s.cam c).eval.relearnCount } ∧
    (t.cam c).mapCount = (s.cam c).mapCount ∧
    (t.cam c).stats.last = (s.cam c).stats.last ∧
    NoReport (Claim.liveReported
      (s.hand .intake ((s.cam c).geom.slotAddr j + b * 64) (.write d en)) c) t ∧
    OthersKept s t c ∧
    t = { s with
      cams := t.cams
      port := (s.writeDone p).port
      ring := t.ring
      attention := t.attention
      arb := t.arb }

/-- R38, R39, R64: an evaluator in LEARN or WATCH, or back there because the completion makes the camera LIVE: a
frame that is in order to its last beat is counted, one that is not is not; neither is evaluated before the
count reaches the interval. -/
def Sys2Proof.Claim.CompletionCounted (s : State) (p : PortTag) (c : CamId) (a : Addr) (d : Beat)
    (en : Enables) (b : Nat) (r : IntakeRec) (j : Nat) (q : BitVec 32) (n : Nat) (h : BitVec 13) : Prop :=
  Claim.LastBeat s c a b r j q n h → Claim.NobodyWaits s → (s.cam c).chan ≠ .disarmed →
    (Claim.resumed (s.cam c) = .learn ∨ Claim.resumed (s.cam c) = .watch) →
    let ordered := r.disordered = false ∧ b = r.cursor ∧ en = BitVec.allOnes 64
    (ordered → ∀ m, Claim.counts (s.cam c).eval m → m + 1 < (s.cam c).cfg.interval) →
    Gives (.intakeWriteBeat p a d en) s fun t => Claim.countedAlone s t p c d en b j q h ordered

/-- R36, R40, R41: what an evaluated frame leaves in every case: its beat is accumulated, the last-values record is
that of the frame with the fitness found, the map count is up. -/
def Sys2Proof.Claim.evaluated (s t : State) (c : CamId) (d : Beat) (r : IntakeRec) (fit : Bool) : Prop :=
  (s.cam c).stats.took (t.cam c).stats (s.cam c).geom r.cursor d ∧
    (t.cam c).stats.recorded (s.cam c).geom r.seq fit ∧ (t.cam c).mapCount = (s.cam c).mapCount + 1

/-- R40: an unfit frame raises the unfit count, saturating, and does no more. -/
def Sys2Proof.Claim.unfitFrame (e e' : Evaluator) : Prop :=
  e'.unfit.toNat = min 65535 (e.unfit.toNat + 1) ∧
    e' = { e with eligible := 0, relearnCount := none, unfit := e'.unfit }

/-- R50, R51: a learning step; `n` is the learn progress after it. -/
def Sys2Proof.Claim.learnedFrame (x : Camera) (u : TileStats) (e e' : Evaluator) (n : Nat) : Prop :=
  (∀ k : Fin 48, e'.tiles[k] =
    { e.tiles[k] with
      baseline :=
        if e.learnProgress = 0 then u.textureOf x.geom k
        else movedBaseline e.tiles[k].baseline (u.textureOf x.geom k) x.cfg.learnShiftUsed }) ∧
    e' = { e with
      eligible := 0
      relearnCount := none
      tiles := e'.tiles
      learnProgress := n
      state := if x.cfg.learnCountUsed ≤ n then .watch else .learn }

/-- R52 to R57: a watching step; `n` is the level after it. -/
def Sys2Proof.Claim.watchedFrame (x : Camera) (u : TileStats) (e e' : Evaluator) (n : Nat) : Prop :=
  (∀ k : Fin 48, e.tiles[k].watched e'.tiles[k] x.cfg (u.textureOf x.geom k) (u.meanOf x.geom k)) ∧
    n = e'.tiles.toList.countP Tile.confirmed ∧
    e' = { e with
      eligible := 0
      relearnCount := none
      tiles := e'.tiles
      level := n
      verdict := verdictAfter x.cfg e.verdict n }

/-- The completion of an eligible frame is evaluated, in the state to which the evaluator has returned: fitness, the
last-values record, and for a fit frame the learning or watching step with its report and triggers (R36, R39 to
R41, R50 to R58, R64). -/
def Sys2Proof.Claim.judged (s t : State) (p : PortTag) (c : CamId) (d : Beat) (r : IntakeRec) (j : Nat)
    (q : BitVec 32) (h : BitVec 13) : Prop :=
  let x := s.cam c
  let e := { x.eval with state := Claim.resumed x }
  let e' := (t.cam c).eval
  let u := (t.cam c).stats
  let v := Claim.liveReported
    (s.hand .intake (x.geom.slotAddr j + r.cursor * 64) (.write d (BitVec.allOnes 64))) c
  let fit := decide (x.cfg.darkFloor.toNat ≤ u.cameraMeanOf x.geom ∧
    u.cameraMeanOf x.geom ≤ x.cfg.brightCeiling.toNat)
  let progress := min 255 (e.learnProgress + 1)
  t.cam c = Claim.completed s t c j q h ∧ Claim.evaluated s t c d r fit ∧
    (fit = false → Claim.unfitFrame e e' ∧ NoReport v t ∧ t.engine = s.engine) ∧
    (fit = true → e.state = .learn →
      Claim.learnedFrame x u e e' progress ∧ t.engine = s.engine ∧
        if x.cfg.learnCountUsed ≤ progress then
          Reported v t .learnDone c.val (detail progress 0 0) r.seq
        else NoReport v t) ∧
    (fit = true → e.state = .watch →
      Claim.watchedFrame x u e e' e'.level ∧
        (if e'.verdict = e.verdict then NoReport v t
          else Reported v t .verdict c.val
            (word32 e.verdict.code e'.verdict.code e'.level 0) r.seq) ∧
        if e'.verdict ≠ e.verdict ∧ e'.verdict = .dirty then
          s.engine.takesEvent t.engine (.dirty c)
        else t.engine = s.engine) ∧
    OthersKept s t c ∧
    t = { s with
      cams := t.cams
      engine := t.engine
      port := (s.writeDone p).port
      ring := t.ring
      attention := t.attention
      arb := t.arb }

/-- R36 to R41, R50 to R58, R64: an eligible frame that is due is evaluated. -/
def Sys2Proof.Claim.FrameEvaluated (s : State) (p : PortTag) (c : CamId) (a : Addr) (d : Beat)
    (r : IntakeRec) (j : Nat) (q : BitVec 32) (n : Nat) (h : BitVec 13) : Prop :=
  Claim.LastBeat s c a r.cursor r j q n h → Claim.NobodyWaits s → (s.cam c).chan ≠ .disarmed →
    r.disordered = false →
    (Claim.resumed (s.cam c) = .learn ∨ Claim.resumed (s.cam c) = .watch) →
    (∀ m, Claim.counts (s.cam c).eval m → (s.cam c).cfg.interval ≤ m + 1) →
    Gives (.intakeWriteBeat p a d (BitVec.allOnes 64)) s fun t => Claim.judged s t p c d r j q h

/-- R39, R47, R68: together with a RELEARN taken first, an eligible frame is evaluated, as R68, row 1, has it, or
counted alone, as R39 and R47 have it: which of the two is a free value (log entry 31). -/
def Sys2Proof.Claim.FrameAfterRelearn (s : State) (p : PortTag) (c : CamId) (a : Addr) (d : Beat)
    (r : IntakeRec) (j : Nat) (q : BitVec 32) (n : Nat) (h : BitVec 13) (m : Nat) : Prop :=
  Claim.LastBeat s c a r.cursor r j q n h → Claim.NobodyWaits s → (s.cam c).chan ≠ .disarmed →
    r.disordered = false →
    (Claim.resumed (s.cam c) = .learn ∨ Claim.resumed (s.cam c) = .watch) →
    (s.cam c).eval.relearnCount = some m →
    Gives (.intakeWriteBeat p a d (BitVec.allOnes 64)) s fun t =>
      Claim.judged s t p c d r j q h ∨
        Claim.countedAlone s t p c d (BitVec.allOnes 64) r.cursor j q h True

/-- R66: a completion in RESTART_WAIT raises the restart count up to the delay in use, and with it ends the wait:
LEARN with cleared tables in mode RUN, HOLD with cause PAUSED in mode PAUSE. A camera that was LOST or STALE is
LIVE first. -/
def Sys2Proof.Claim.RestartCounted (s : State) (p : PortTag) (c : CamId) (a : Addr) (d : Beat)
    (en : Enables) (b : Nat) (r : IntakeRec) (j : Nat) (q : BitVec 32) (n : Nat) (h : BitVec 13) : Prop :=
  Claim.LastBeat s c a b r j q n h → Claim.NobodyWaits s → (s.cam c).chan ≠ .disarmed →
    (s.cam c).eval.state = .restartWait → (s.cam c).eval.verdict = .clean →
    (s.cam c).eval.mode ≠ .stop →
    Gives (.intakeWriteBeat p a d en) s fun t =>
      let x := s.cam c
      let e := x.eval
      let e' := (t.cam c).eval
      let v := s.hand .intake (x.geom.slotAddr j + b * 64) (.write d en)
      let k := min (e.restartCount + 1) x.cfg.restartDelay.toNat
      t.cam c = Claim.completed s t c j q h ∧
        (k < x.cfg.restartDelay.toNat →
          e' = { e with restartCount := k } ∧ (t.cam c).mapCount = x.mapCount) ∧
        (k = x.cfg.restartDelay.toNat → e.mode = .run →
          e'.state = .learn ∧ Cleared e' ∧ e'.restartCount = 0 ∧ e'.mode = .run ∧
            e'.unfit = e.unfit) ∧
        (k = x.cfg.restartDelay.toNat → e.mode = .pause →
          e' = { e with state := .hold true false .learn, restartCount := 0 }) ∧
        NoReport (Claim.liveReported v c) t ∧
        OthersKept s t c ∧
        t = { s with
          cams := t.cams
          port := (s.writeDone p).port
          ring := t.ring
          attention := t.attention
          arb := t.arb }

/-- R3 to R5, R11, R15, R20, R36 to R41, R50 to R58, R64, R66, R68, R96, R115, R136: the completion of a frame,
stored or dropped, and what screens, a BURST that waits and the evaluator take from it. What a completion is
counted from together with a RELEARN is log entry 31. -/
def Obligations.LastBeatCompletesFrame : Prop :=
  (∀ s p c a d en b r j q n h, Claim.CompletionWhileLive s p c a d en b r j q n h) ∧
  (∀ s p c a d en b r j q n h st re, Claim.CompletionEntersLive s p c a d en b r j q n h st re) ∧
  (∀ s p c a d en b r, Claim.CompletionOfDropped s p c a d en b r) ∧
  (∀ s p c a d en b r j q n h x hs f ov g,
    Claim.CompletionReleasesFallback s p c a d en b r j q n h x hs f ov g) ∧
  (∀ s p c a d en b r j q n h x hs f ov e pl m o,
    Claim.WaitingFetchFollows s p c a d en b r j q n h x hs f ov e pl m o) ∧
  (∀ s p c a d en b r j q n h x, Claim.CompletionFeedsBurst s p c a d en b r j q n h x) ∧
  (∀ s p c a d en b r j q n h, Claim.CompletionCounted s p c a d en b r j q n h) ∧
  (∀ s p c a d r j q n h, Claim.FrameEvaluated s p c a d r j q n h) ∧
  (∀ s p c a d r j q n h m, Claim.FrameAfterRelearn s p c a d r j q n h m) ∧
  ∀ s p c a d en b r j q n h, Claim.RestartCounted s p c a d en b r j q n h

/-- R8, R151: a write beat past the frame, or with no frame in progress at an index other than 0, and every
write beat of a dormant window, is absorbed: only its completion is formed. -/
def Obligations.AbsorbedWritesChangeNothing : Prop :=
  ∀ (s : State) (p : PortTag) (a : Addr) (d : Beat) (en : Enables), s.quiet →
    (∀ c : CamId, s.classify (beatBase a) = .intake c →
      (s.cam c).geom.frameBeats ≤ (beatBase a - (s.cam c).geom.intakeBase) / 64 ∨
        ((beatBase a - (s.cam c).geom.intakeBase) / 64 ≠ 0 ∧ (s.cam c).intake = none) →
      exec (.intakeWriteBeat p a d en) s = .next (s.writeDone p)) ∧
    (∀ c : CamId, s.classify (beatBase a) = .intakeOff c →
      exec (.intakeOffBeat p a (.write d en)) s = .next (s.writeDone p)) ∧
    (∀ x : ScrId, s.classify (beatBase a) = .screenOff x →
      exec (.screenOffBeat p a (.write d en)) s = .next (s.writeDone p))

/-- R151, R161: reads of dormant windows are answered at arrival, with zeros or with sixteen copies of the
screen's working background colour, and the sideband flags of that moment. -/
def Obligations.DormantReadsAnswered : Prop :=
  ∀ (s : State) (p : PortTag) (a : Addr), s.quiet →
    (∀ c : CamId, s.classify (beatBase a) = .intakeOff c →
      ∃ t, exec (.intakeOffBeat p a .read) s = .next t ∧ t = { s with port := t.port } ∧
        t.port = (s.port.accept p false
          [some ⟨Vector.replicate 64 0, s.sideFlags⟩]).flush) ∧
    (∀ x : ScrId, s.classify (beatBase a) = .screenOff x →
      ∃ t d, exec (.screenOffBeat p a .read) s = .next t ∧ t = { s with port := t.port } ∧
        t.port = (s.port.accept p false [some ⟨d, s.sideFlags⟩]).flush ∧
        ∀ i : Fin 64, d[i] = (s.screen x).cfg.background.byte (i.val % 4))

/-- R21: a read of an armed camera's window is a slot read at the same offset: of the target slot, else of
the newest READY slot; with neither it is answered with zeros. -/
def Obligations.IntakeReadFollowsSlot : Prop :=
  ∀ (s : State) (p : PortTag) (c : CamId) (a : Addr), s.quiet →
    s.classify (beatBase a) = .intake c →
    (∀ j, s.room .intake = true →
      ((∃ r, (s.cam c).intake = some r ∧ r.target = some j) ∨
        ((∀ r, (s.cam c).intake = some r → r.target = none) ∧
          (s.cam c).ready.getLast? = some j)) →
      ∃ t, exec (.intakeReadBeat p a) s = .next t ∧
        HandedTo s t .intake ((s.cam c).geom.slotAddr j +
          (beatBase a - (s.cam c).geom.intakeBase)) (.read (.intake (s.port.place p))) ∧
        t = { s with port := (s.expectRead p).port, arb := t.arb }) ∧
    ((∀ r, (s.cam c).intake = some r → r.target = none) → (s.cam c).ready = [] →
      exec (.intakeReadBeat p a) s = .next (s.answerRead p (Vector.replicate 64 0)))

/-- R149, R156, R161: what the upstream port does with a beat accepted, a beat formed and the responses whose turn
has come. -/
def Sys2Proof.Claim.PortAnswers : Prop :=
  (∀ (p : Port) t w b, p.accepted t w b (p.accept t w b)) ∧
  (∀ (p : Port) t b, (p.accept t false [b]).placed t b (p.place t)) ∧
  (∀ (p : Port) r b, p.formed r b (p.form r b)) ∧ (∀ p : Port, p.flushed p.flush) ∧
  ∀ (s : State) (t : PortTag),
    s.writeDone t = { s with port := (s.port.accept t true []).flush } ∧
    s.expectRead t = { s with port := s.port.accept t false [none] } ∧
    ∀ d, s.answerRead t d = { s with port := (s.port.accept t false [some ⟨d, s.sideFlags⟩]).flush }

/-- R149, R156, R160, R161: the oldest read in flight returns and forms its response beat with the bytes DRAM gave
and the sideband flags of that moment; what the four flags of a state are; and what the port's operations, in
which this and every other statement gives the upstream port, do: a beat joins its request, a formed beat stands
at its place there, a write's completion is formed with its last beat, and each stream's responses are returned
in acceptance order, none lost. -/
def Obligations.ReadReturnsFormBeats : Prop :=
  (∀ s : State, ShowsFlags s s.sideFlags) ∧ Claim.PortAnswers ∧
  ∀ (s : State) (r : RespRef) (a : Nat) (d : Beat) (rest : List DramRead), s.quiet →
    (s.reads = ⟨.pass r, a, d⟩ :: rest →
      exec .passReadReturn s = .next
        { s with reads := rest, port := (s.port.form r ⟨d, s.sideFlags⟩).flush }) ∧
    (s.reads = ⟨.intake r, a, d⟩ :: rest →
      exec .intakeReadReturn s = .next
        { s with reads := rest, port := (s.port.form r ⟨d, s.sideFlags⟩).flush })

/-! ### Ranges (R2, R23, R81, R98, R152) -/

/-- A range of addresses: its base and its size in bytes. -/
abbrev Sys2Proof.Claim.Span := Nat × Nat

/-- Two ranges share a byte. -/
def Sys2Proof.Claim.share (r q : Claim.Span) : Prop :=
  ∃ a, (r.1 ≤ a ∧ a < r.1 + r.2) ∧ q.1 ≤ a ∧ a < q.1 + q.2

/-- A picture's bytes rounded up to a multiple of 4096: slot stride, intake window and screen window size (R2,
R81). -/
def Sys2Proof.Claim.pages (w h : Nat) : Nat := (w * h * 2 + 4095) / 4096 * 4096

/-- The intake window of a camera geometry (R2). -/
def Sys2Proof.Claim.window (g : CamGeom) : Claim.Span := (g.intakeBase, Claim.pages g.w g.h)

/-- The slot area of a camera geometry (R2). -/
def Sys2Proof.Claim.area (g : CamGeom) : Claim.Span := (g.slotBase, g.k * Claim.pages g.w g.h)

/-- The window of a screen geometry (R81). -/
def Sys2Proof.Claim.view (g : ScrGeom) : Claim.Span := (g.base, Claim.pages g.ws g.hs)

/-- The control area: 64 KiB from the strapped base (R152). -/
def Sys2Proof.Claim.control (s : State) : Claim.Span := (s.strapBase.toNat * 65536, 65536)

/-- The sizes of a camera geometry pass the GEOMETRY check of R23. -/
def Sys2Proof.Claim.camFits (g : CamGeom) : Prop :=
  (64 ≤ g.w ∧ g.w ≤ 1920 ∧ g.w % 32 = 0) ∧ 48 ≤ g.h ∧ g.h ≤ 1080 ∧ g.h % 6 = 0

/-- The sizes of a screen geometry pass the GEOMETRY check of R98. -/
def Sys2Proof.Claim.scrFits (g : ScrGeom) : Prop :=
  (64 ≤ g.ws ∧ g.ws ≤ 1920 ∧ g.ws % 32 = 0) ∧ 16 ≤ g.hs ∧ g.hs ≤ 1200

/-- A range shares a byte with the intake window or the slot area of armed camera `e` (R152). -/
def Sys2Proof.Claim.meetsArmed (s : State) (r : Claim.Span) (e : CamId) : Prop :=
  (s.cam e).chan ≠ .disarmed ∧
    (Claim.share r (Claim.window (s.cam e).geom) ∨ Claim.share r (Claim.area (s.cam e).geom))

/-- A range shares a byte with the slot area of camera `e`, DISARMED while one of its slots is held (R133, R152). -/
def Sys2Proof.Claim.meetsHeld (s : State) (r : Claim.Span) (e : CamId) : Prop :=
  (s.cam e).chan = .disarmed ∧ (∃ q ∈ (s.cam e).slots, q.holders ≠ 0) ∧
    Claim.share r (Claim.area (s.cam e).geom)

/-- A range shares a byte with the window of enabled screen `x` (R152). -/
def Sys2Proof.Claim.meetsShown (s : State) (r : Claim.Span) (x : ScrId) : Prop :=
  (s.screen x).state ≠ .disabled ∧ Claim.share r (Claim.view (s.screen x).geom)

/-- ARM of camera `c` with geometry `g` is refused OVERLAP: the new window and slot area meet each other, or one of
them meets an armed camera, the slot area of a DISARMED camera one of whose slots is held, an enabled screen's
window or the control area, or ends above the highest address (R152). -/
def Sys2Proof.Claim.armClashes (s : State) (c : CamId) (g : CamGeom) : Prop :=
  Claim.share (Claim.window g) (Claim.area g) ∨
    ∃ r, (r = Claim.window g ∨ r = Claim.area g) ∧
      ((∃ e, e ≠ c ∧ Claim.meetsArmed s r e) ∨
        (∃ e, e ≠ c ∧ Claim.meetsHeld s r e) ∨
        (∃ x, Claim.meetsShown s r x) ∨ Claim.share r (Claim.control s) ∨ 2 ^ 40 < r.1 + r.2)

/-- ENABLE of screen `x` with geometry `g` is refused OVERLAP: the new window meets another enabled screen's, an
armed camera or the control area, or ends above the highest address (R152). -/
def Sys2Proof.Claim.enableClashes (s : State) (x : ScrId) (g : ScrGeom) : Prop :=
  (∃ y, y ≠ x ∧ Claim.meetsShown s (Claim.view g) y) ∨ (∃ e, Claim.meetsArmed s (Claim.view g) e) ∨
    Claim.share (Claim.view g) (Claim.control s) ∨ 2 ^ 40 < (Claim.view g).1 + (Claim.view g).2

/-! ### Screens -/

/-- R87: a selected sync edge of an enabled screen in SYNC mode starts the offset timer, or is ignored and
counted while it runs; with offset time 0 the latch falls due at once, and is owed while the retiring set is
not empty (R89); any change in another mode or of a DISABLED screen changes the sync level alone. -/
def Obligations.SyncEdgeHandled : Prop :=
  ∀ (s : State) (x : ScrId) (level : Bool), s.quiet → (s.screen x).sync ≠ level →
    let y := s.screen x
    ((y.state = .disabled ∨ y.geom.mode ≠ .sync ∨ level = y.cfg.falling) →
      exec (.syncLineChange x level) s = .next (s.setScreen x { y with sync := level })) ∧
    (y.state ≠ .disabled → y.geom.mode = .sync → level ≠ y.cfg.falling →
      y.offsetTimer.isSome = true →
      exec (.syncLineChange x level) s = .next
        (s.setScreen x { y with sync := level, ignoredSyncs := y.ignoredSyncs + 1 })) ∧
    (y.state ≠ .disabled → y.geom.mode = .sync → level ≠ y.cfg.falling →
      y.offsetTimer = none → y.cfg.offsetTime ≠ 0 →
      exec (.syncLineChange x level) s = .next
        (s.setScreen x
          { y with
            sync := level
            offsetTimer := some (s.timebase + y.cfg.offsetTime.setWidth 32) })) ∧
    (y.state ≠ .disabled → y.geom.mode = .sync → level ≠ y.cfg.falling →
      y.offsetTimer = none → y.cfg.offsetTime = 0 →
      if y.retiring.isSome then
        exec (.syncLineChange x level) s =
          .next (s.setScreen x { y with sync := level, owed := true })
      else
        Gives (.syncLineChange x level) s fun t =>
          Latched (s.setScreen x { y with sync := level }) t x)

/-- The screen after its timer has run out: the offset timer is idle, the cycle timer stands one cycle period
on (R87, R88). -/
def Sys2Proof.Claim.timerTaken (y : Screen) (now : Time) (cycle : Bool) : Screen :=
  if cycle then { y with cycleTimer := some (now + BitVec.ofNat 32 y.cfg.periodUsed) }
  else { y with offsetTimer := none }

/-- R85, R87, R88, R90 to R94: a latch at an offset or cycle expiry. The screen may wait for its first latch,
with no set and no layout choice, or be RUNNING with a set that retires. -/
def Sys2Proof.Claim.ExpiryLatches (s : State) (x : ScrId) (cycle : Bool) : Prop :=
  s.quiet → (s.screen x).retiring = none →
    s.timer (if cycle then .cycle x else .offset x) = some s.timebase →
    Gives (if cycle then .cycleTimerExpiry x else .offsetTimerExpiry x) s fun t =>
      Latched (s.setScreen x (Claim.timerTaken (s.screen x) s.timebase cycle)) t x

/-- R87 to R89: a latch that falls due while the retiring set is not empty is owed. -/
def Sys2Proof.Claim.ExpiryOwed (s : State) (x : ScrId) (cycle : Bool) : Prop :=
  s.quiet → (s.screen x).retiring.isSome = true →
    s.timer (if cycle then .cycle x else .offset x) = some s.timebase →
    exec (if cycle then .cycleTimerExpiry x else .offsetTimerExpiry x) s =
      .next (s.setScreen x
        { Claim.timerTaken (s.screen x) s.timebase cycle with owed := true })

/-- R85, R87 to R95: an offset or cycle timer that runs out sets the timer's next value and performs the
latch: a pending COMMIT is applied and answered, the layout chosen, the old set retired or released, the new
set made with its camera entries and tags, and LAYOUT_CHANGED reported where the choice changed; with a
retiring set the latch is owed. -/
def Obligations.ExpiryPerformsLatch : Prop :=
  (∀ s x cycle, Claim.ExpiryLatches s x cycle) ∧ ∀ s x cycle, Claim.ExpiryOwed s x cycle

/-- The screen after a read beat at address `a` has set the last line read (R86). -/
def Sys2Proof.Claim.seen (s : State) (x : ScrId) (a : Addr) : Screen :=
  { s.screen x with
    lastLine := some ((beatBase a - (s.screen x).geom.base) / (2 * (s.screen x).geom.ws)) }

/-- The entry a read beat becomes when it arrives (R103, R104). -/
def Sys2Proof.Claim.arrived (s : State) (p : PortTag) (x : ScrId) (a : Addr) : Entry :=
  ⟨s.nextEntry, p.stream, s.port.place p, beatBase a - (s.screen x).geom.base, .waiting⟩

/-- A read beat of screen `x`'s window can be taken (R104, R149). -/
def Sys2Proof.Claim.reads (s : State) (x : ScrId) (a : Addr) : Prop :=
  s.quiet ∧ s.classify (beatBase a) = .screen x ∧ (s.screen x).table.length < 32 ∧
    ∀ e ∈ (s.screen x).table, e.id ≠ s.nextEntry

/-- R104, step 4: before the first latch of a screen in SYNC or CYCLE mode. -/
def Sys2Proof.Claim.ReadWithoutSet (s : State) (p : PortTag) (x : ScrId) (a : Addr) : Prop :=
  Claim.reads s x a → (s.screen x).geom.mode ≠ .readStart → (s.screen x).state = .waitLatch →
    exec (.screenReadBeat p a) s = .next
      { s.setScreen x (Claim.seen s x a) with
        port := (s.port.accept p false
          [some ⟨copiesOf (s.screen x).cfg.background, s.sideFlags⟩]).flush }

/-- R104, R119: a RUNNING screen whose active set draws nothing; no latch falls due. -/
def Sys2Proof.Claim.ReadDrawsNothing (s : State) (p : PortTag) (x : ScrId) (a : Addr) (hs : HoldSet) : Prop :=
  Claim.reads s x a → ¬(s.screen x).readDue (((Claim.seen s x a).lastLine).getD 0) →
    ((s.screen x).geom.mode = .readStart → (s.screen x).owed = false) →
    (s.screen x).state = .running → (s.screen x).active = some hs → hs.layout.count = 0 →
    exec (.screenReadBeat p a) s = .next
      { s.setScreen x (Claim.seen s x a) with
        port := ((s.port.accept p false [none]).form (s.port.place p)
          ⟨copiesOf hs.background, s.sideFlags⟩).flush
        nextEntry := s.nextEntry + 1 }

/-- R86, R90, R104: a read beat that makes a READ_START latch fall due, the retiring set empty: the latch is
performed, and the beat is composed under the set it has made. -/
def Sys2Proof.Claim.ReadStartLatches (s : State) (p : PortTag) (x : ScrId) (a : Addr) : Prop :=
  Claim.reads s x a → (s.screen x).retiring = none → (s.screen x).owed = false →
    (s.screen x).readDue (((Claim.seen s x a).lastLine).getD 0) →
    Gives (.screenReadBeat p a) s fun t =>
      ∃ u hs, Latched (s.setScreen x (Claim.seen s x a)) u x ∧ (u.screen x).active = some hs ∧
        let e := Claim.arrived s p x a
        Composed
          { u.setScreen x { u.screen x with table := (u.screen x).table ++ [e] } with
            port := s.port.accept p false [none]
            nextEntry := s.nextEntry + 1 } t x hs e

/-- R86, R89: with a retiring set the latch is owed, and the beat waits, as does every later one. -/
def Sys2Proof.Claim.ReadWaits (s : State) (p : PortTag) (x : ScrId) (a : Addr) : Prop :=
  Claim.reads s x a → (s.screen x).geom.mode = .readStart →
    ((s.screen x).owed = true ∨ (s.screen x).readDue (((Claim.seen s x a).lastLine).getD 0)) →
    (s.screen x).retiring.isSome = true →
    exec (.screenReadBeat p a) s = .next
      { s.setScreen x
          { Claim.seen s x a with
            owed := true
            table := (s.screen x).table ++ [Claim.arrived s p x a] } with
        port := s.port.accept p false [none]
        nextEntry := s.nextEntry + 1 }

/-- R86, R89, R104, R119: read beats of a screen: answered with the working background before the first latch,
with the set's background where the set draws nothing; in READ_START mode latched first, or waiting for an
owed latch. Every one sets the last line read, in SYNC and CYCLE modes too: that is the model's reading of R86
("kept and shown"), log entry 11. -/
def Obligations.ScreenReadAnsweredAtOnce : Prop :=
  (∀ s p x a, Claim.ReadWithoutSet s p x a) ∧ (∀ s p x a hs, Claim.ReadDrawsNothing s p x a hs) ∧
    (∀ s p x a, Claim.ReadStartLatches s p x a) ∧ ∀ s p x a, Claim.ReadWaits s p x a

/-- R104, R115: a read beat of a RUNNING screen, no latch falling due, is composed under the active set: with a
source in its plan it becomes a FETCHING entry at the tail of the table, and its fetches are handed in plan
order as far as the COMPOSE queue has places; the rest wait. It sets the last line read (in SYNC and CYCLE
modes by log entry 11). -/
def Sys2Proof.Claim.ReadFetches : Prop :=
  ∀ (s : State) (p : PortTag) (x : ScrId) (a : Addr) (hs : HoldSet), Claim.reads s x a →
    ¬(s.screen x).readDue (((Claim.seen s x a).lastLine).getD 0) →
    ((s.screen x).geom.mode = .readStart → (s.screen x).owed = false) →
    (s.screen x).state = .running → (s.screen x).active = some hs → s.fetchWait = [] →
    let e := Claim.arrived s p x a
    let plan := s.plan (s.screen x).geom hs e.offset
    planBeats plan ≠ [] →
    Gives (.screenReadBeat p a) s fun t =>
      t.screens = (s.setScreen x
          { Claim.seen s x a with
            table := (s.screen x).table ++
              [{ e with state := .fetching .active plan (planBeats plan).length }] }).screens ∧
        FetchesSent s t ((planBeats plan).map fun b => ⟨x, e.id, b.1, b.2.1, b.2.2⟩) ∧
        t = { s with
          screens := t.screens
          port := s.port.accept p false [none]
          arb := t.arb
          fetchWait := t.fetchWait
          nextEntry := s.nextEntry + 1 }

/-- R103 to R115: what the plan of a beat is, which source beats it names, and what a read beat whose plan names one
does. Each of the sixteen macropixels is the item of the drawn pane with the highest index that covers it: lost
colour, border colour, or the source macropixel of the primary or the fallback at the column and line that
decimation, mirroring and clamping give; background where no pane covers it, and in the padding. -/
def Obligations.ScreenReadSendsFetch : Prop :=
  (∀ (s : State) g hs o, s.planShown g hs o (s.plan g hs o)) ∧ beatsNamed planBeats ∧ Claim.ReadFetches

/-- R120: a write beat to an enabled screen's window changes no composition state; it is counted, and the
first of the latch interval is reported with its window offset and the latch count. -/
def Obligations.ScreenWriteCounted : Prop :=
  ∀ (s : State) (p : PortTag) (x : ScrId) (a : Addr) (d : Beat) (en : Enables), s.quiet →
    s.classify (beatBase a) = .screen x →
    ∃ t, exec (.screenWriteBeat p a d en) s = .next t ∧
      t.screens = (s.setScreen x
        { s.screen x with
          misuse := true
          misuseCount := (s.screen x).misuseCount + 1 }).screens ∧
      ((s.screen x).misuse = true → NoReport s t) ∧
      ((s.screen x).misuse = false → t.attention = { s.attention with screen := true } ∧
        Reported s t .windowMisuse x.val
          (BitVec.ofNat 32 (beatBase a - (s.screen x).geom.base)) (s.screen x).latchCount) ∧
      t = { s with
        screens := t.screens
        port := (s.writeDone p).port
        ring := t.ring
        attention := t.attention
        arb := t.arb }

/-- R98: ENABLE of a DISABLED screen whose settings pass the checks and whose sets are empty: the effective
geometry is taken, the screen waits for its first latch, its counts are 0, and in CYCLE mode the cycle timer
starts. -/
def Obligations.EnableLocksGeometry : Prop :=
  ∀ (s : State) (p : PortTag) (x : ScrId) (f : ReqFields), s.quiet →
    (s.screen x).state = .disabled → Claim.scrFits (s.screen x).cfg.geom →
    ¬Claim.enableClashes s x (s.screen x).cfg.geom → (s.screen x).active = none →
    (s.screen x).retiring = none →
    ∃ t, exec (.enable p x f) s = .next t ∧ Answered s t p (.screen x) 1 f .done ∧
      t.screen x =
        { s.screen x with
          geom := (s.screen x).cfg.geom
          state := .waitLatch
          choice := none
          lastLine := none
          latchCount := 0
          ignoredSyncs := 0
          owed := false
          offsetTimer := none
          cycleTimer :=
            if (s.screen x).cfg.latchMode = 2 then
              some (s.timebase + BitVec.ofNat 32 (s.screen x).cfg.periodUsed)
            else none
          misuse := false
          misuseCount := 0 } ∧
      (∀ y, y ≠ x → t.screen y = s.screen y) ∧
      t = { s with screens := t.screens, port := t.port, words := t.words }

/-- The screen while DISABLE takes it down: a pending COMMIT is applied, both timers are idle, the owed latch is
dropped (R99, steps 1 and 2); the request's beat is done. -/
def Sys2Proof.Claim.disabling (s : State) (p : PortTag) (x : ScrId) : State :=
  { s.setScreen x
      { s.screen x with
        committed := (s.screen x).layoutsNow
        pendingCommit := none
        offsetTimer := none
        cycleTimer := none
        owed := false } with
    port := (s.writeDone p).port }

/-- Then the entries that waited for an owed latch are composed, in table order, under the active set (R118). -/
def Sys2Proof.Claim.disableComposed (s : State) (p : PortTag) (x : ScrId) (v : State) : Prop :=
  match (s.screen x).active with
  | some hs => ComposedAll x hs (waitingOf (s.screen x).table) (Claim.disabling s p x) v
  | none => v = Claim.disabling s p x

/-- The set of a role that DISABLE leaves: the set as it is while a read beat is in flight under it, else none
(R99, step 4). -/
def Sys2Proof.Claim.kept (y : Screen) (r : SetRole) : Option HoldSet :=
  if y.table.any (·.under r) then y.setOf r else none

/-- The tags by which the set that DISABLE releases held slot `j` of camera `c`. -/
def Sys2Proof.Claim.freed (x : ScrId) (y : Screen) (r : SetRole) (c : CamId) (j : Nat) : BitVec 13 :=
  if y.table.any (·.under r) then 0 else setTags x r (y.setOf r) c j

/-- R99, R118: DISABLE of an enabled screen, whatever its table holds: a pending COMMIT is applied and ends DONE,
both timers are idle, the owed latch is dropped, read beats that waited for it are composed under the active
set, and the screen is DISABLED. A set with a read in flight under it is kept with its tags; any other is
released and its tags are removed (R18). That fetches waiting from earlier entries are handed at a composition is
log entry 30, the model's choice. -/
def Sys2Proof.Claim.DisablePerformed : Prop :=
  ∀ (s : State) (p : PortTag) (x : ScrId) (f : ReqFields), s.quiet →
    (s.screen x).state ≠ .disabled →
    Gives (.disable p x f) s fun t => ∃ v, Claim.disableComposed s p x v ∧
      (let m := (s.mailbox (.screen x)).take 2 f
      t.mailbox (.screen x) =
        { m with
          ansTag := m.tag
          result := .done
          openTag := if (s.screen x).pendingCommit.isSome then none else m.openTag }) ∧
      t.screen x =
        { v.screen x with
          state := .disabled
          active := Claim.kept (v.screen x) .active
          retiring := Claim.kept (v.screen x) .retiring } ∧
      SlotsBecome s t (fun c j q => q.without
        (Claim.freed x (v.screen x) .active c j ||| Claim.freed x (v.screen x) .retiring c j)) ∧
      (∀ y, y ≠ x → t.screen y = s.screen y) ∧
      (∀ q, q ≠ .screen x → t.mailbox q = s.mailbox q) ∧
      t = { v with
        cams := t.cams
        screens := t.screens
        words := t.words }

/-- R99, R100: DISABLE of a DISABLED screen is answered DONE and changes nothing. -/
def Sys2Proof.Claim.DisableNothing : Prop :=
  ∀ (s : State) (p : PortTag) (x : ScrId) (f : ReqFields), s.quiet → (s.screen x).state = .disabled →
    Gives (.disable p x f) s fun t =>
      Answered s t p (.screen x) 2 f .done ∧ t = { s with port := t.port, words := t.words }

/-- R18, R85, R99, R100, R118: DISABLE of an enabled screen, with what its table holds, and of a DISABLED one. The
handing of fetches that wait from earlier entries is log entry 30, the model's choice. -/
def Obligations.DisableEndsScreen : Prop := Claim.DisablePerformed ∧ Claim.DisableNothing

/-- R85, R165: COMMIT on a screen that is not RUNNING copies the five staged layouts at once and is answered
DONE; on a RUNNING screen it becomes pending under its tag, IN_PROGRESS and open; while one is pending it is
answered BUSY and changes no screen. -/
def Obligations.CommitByState : Prop :=
  ∀ (s : State) (p : PortTag) (x : ScrId) (f : ReqFields), s.quiet →
    let m := (s.mailbox (.screen x)).take 3 f
    ((s.screen x).state ≠ .running →
      ∃ t, exec (.commit p x f) s = .next t ∧ Answered s t p (.screen x) 3 f .done ∧
        t = { s with
          screens :=
            (s.setScreen x { s.screen x with committed := (s.screen x).cfg.staged }).screens
          port := t.port
          words := t.words }) ∧
    ((s.screen x).state = .running → (s.screen x).pendingCommit = none →
      ∃ t, exec (.commit p x f) s = .next t ∧
        t.mailbox (.screen x) =
          { m with ansTag := m.tag, result := .inProgress, openTag := some m.tag } ∧
        t = { s with
          screens := (s.setScreen x { s.screen x with pendingCommit := some m.tag }).screens
          port := (s.writeDone p).port
          words := (s.setMailbox (.screen x) (t.mailbox (.screen x))).words }) ∧
    ((s.screen x).state = .running → (s.screen x).pendingCommit.isSome = true →
      ∃ t, exec (.commit p x f) s = .next t ∧ Answered s t p (.screen x) 3 f .busy ∧
        t = { s with port := t.port, words := t.words })

/-! ### Composer fetches -/

/-- R115: the oldest waiting fetch is handed to the COMPOSE queue when it has a place. -/
def Obligations.WaitingFetchHanded : Prop :=
  ∀ (s : State) (f : Fetch) (rest : List Fetch), s.quiet → s.fetchWait = f :: rest →
    s.room .compose = true →
    ∃ t, exec .composerFetchHanding s = .next t ∧ t.fetchWait = rest ∧
      t.queue .compose = s.queue .compose ++
        [⟨s.arb.handed, f.addr, .read (.compose f)⟩] ∧
      (∀ q, q ≠ .compose → t.queue q = s.queue q) ∧
      t = { s with fetchWait := rest, arb := t.arb }

/-- The oldest read in flight is the fetch `f` of the entry `e` of its screen's table, FETCHING (R116). -/
def Sys2Proof.Claim.fetched (s : State) (f : Fetch) (a : Nat) (d : Beat) (rest : List DramRead)
    (pre post : List Entry) (e : Entry) : Prop :=
  s.quiet ∧ s.reads = ⟨.compose f, a, d⟩ :: rest ∧ (s.screen f.screen).table = pre ++ e :: post ∧
    e.id = f.entry ∧ ∀ q ∈ pre ++ post, q.id ≠ f.entry

/-- R116: a fetch that is not its entry's last forms the macropixels its beat holds and lowers the count. -/
def Sys2Proof.Claim.FetchNotLast (s : State) (f : Fetch) (a : Nat) (d : Beat) (rest : List DramRead)
    (pre post : List Entry) (e : Entry) (r : SetRole) (plan : List PlanItem) (n : Nat) : Prop :=
  Claim.fetched s f a d rest pre post e → e.state = .fetching r plan (n + 2) →
    exec .composerFetchReturn s = .next
      { s with
        reads := rest
        screens := (s.setScreen f.screen
          { s.screen f.screen with
            table := pre ++
              { e with state := .fetching r (plan.map (PlanItem.fill f d)) (n + 1) } :: post }).screens }

/-- The plan is of 16 items, and every one still to be formed lies in the beat that `f` brings. -/
def Sys2Proof.Claim.completes (f : Fetch) (plan : List PlanItem) : Prop :=
  plan.length = 16 ∧ ∀ it ∈ plan, match it with
    | .source src none =>
      src.cam = f.cam ∧ src.slot = f.slot ∧ src.addr / 64 * 64 = f.addr ∧ src.addr % 4 = 0
    | _ => True

/-- The state once the last fetch of entry `e` has formed the response, before any set is released. -/
def Sys2Proof.Claim.answered (s : State) (f : Fetch) (d : Beat) (rest : List DramRead)
    (pre post : List Entry) (e : Entry) (plan : List PlanItem) : State :=
  { s.setScreen f.screen { s.screen f.screen with table := pre ++ post } with
    reads := rest
    port := (s.port.form e.resp ⟨planShows d plan ⟨0, 0, 0, 0⟩, s.sideFlags⟩).flush }

/-- R116: an entry's last fetch forms the response from the 16 macropixels and removes the entry. Another read
is in flight under the set, or it is the active set of an enabled screen: no set is released. -/
def Sys2Proof.Claim.FetchLast (s : State) (f : Fetch) (a : Nat) (d : Beat) (rest : List DramRead)
    (pre post : List Entry) (e : Entry) (r : SetRole) (plan : List PlanItem) : Prop :=
  Claim.fetched s f a d rest pre post e → e.state = .fetching r plan 1 → Claim.completes f plan →
    ((∃ q ∈ pre ++ post, q.under r = true) ∨
      r = .active ∧ (s.screen f.screen).state ≠ .disabled) →
    exec .composerFetchReturn s = .next (Claim.answered s f d rest pre post e plan)

/-- The set of a role is released: it is empty, and its tags are removed (R18, R95, R99). -/
def Sys2Proof.Claim.released (u : State) (x : ScrId) (r : SetRole) (hs : HoldSet) : State :=
  (u.setScreen x
    (match r with
      | .active => { u.screen x with active := none }
      | .retiring => { u.screen x with retiring := none })).slotsBy
    fun c j q => q.without (setTags x r (some hs) c j)

/-- R95, R99, R116: with the last read in flight under it the retiring set is released, and so is the active
set that a DISABLE left; no latch is owed. -/
def Sys2Proof.Claim.FetchReleasesSet (s : State) (f : Fetch) (a : Nat) (d : Beat) (rest : List DramRead)
    (pre post : List Entry) (e : Entry) (r : SetRole) (plan : List PlanItem) (hs : HoldSet) : Prop :=
  Claim.fetched s f a d rest pre post e → e.state = .fetching r plan 1 → Claim.completes f plan →
    (∀ q ∈ pre ++ post, q.under r = false) → (s.screen f.screen).owed = false →
    (r = .retiring ∧ (s.screen f.screen).retiring = some hs ∨
      r = .active ∧ (s.screen f.screen).active = some hs ∧ (s.screen f.screen).state = .disabled) →
    exec .composerFetchReturn s =
      .next (Claim.released (Claim.answered s f d rest pre post e plan) f.screen r hs)

/-- R89, R95: the owed latch is performed at the release; the entries, none of which waits, go on. -/
def Sys2Proof.Claim.FetchPerformsOwed (s : State) (f : Fetch) (a : Nat) (d : Beat) (rest : List DramRead)
    (pre post : List Entry) (e : Entry) (plan : List PlanItem) (hs : HoldSet) : Prop :=
  Claim.fetched s f a d rest pre post e → e.state = .fetching .retiring plan 1 →
    Claim.completes f plan →
    (∀ q ∈ pre ++ post, q.under .retiring = false ∧ q.state ≠ .waiting) →
    (s.screen f.screen).owed = true → (s.screen f.screen).retiring = some hs →
    Gives .composerFetchReturn s fun t =>
      let u := Claim.released (Claim.answered s f d rest pre post e plan) f.screen .retiring hs
      Latched (u.setScreen f.screen { u.screen f.screen with owed := false }) t f.screen

/-- R89, R118: the entries that waited for that latch are composed after it, in table order, under the set it has
made. -/
def Sys2Proof.Claim.FetchComposesWaiting (s : State) (f : Fetch) (a : Nat) (d : Beat)
    (rest : List DramRead) (pre post : List Entry) (e : Entry) (plan : List PlanItem) (hs : HoldSet) :
    Prop :=
  Claim.fetched s f a d rest pre post e → e.state = .fetching .retiring plan 1 →
    Claim.completes f plan → (∀ q ∈ pre ++ post, q.under .retiring = false) →
    (s.screen f.screen).owed = true → (s.screen f.screen).retiring = some hs →
    Gives .composerFetchReturn s fun t =>
      let u := Claim.released (Claim.answered s f d rest pre post e plan) f.screen .retiring hs
      ∃ v hs', Latched (u.setScreen f.screen { u.screen f.screen with owed := false }) v f.screen ∧
        (v.screen f.screen).active = some hs' ∧
        ComposedAll f.screen hs' (waitingOf (pre ++ post)) v t

/-- R89, R95, R99, R116, R118: what the return of a fetch does: its macropixels are formed; the last one forms
the response, and with the last read in flight under a set that set is released, an owed latch performed and
the entries that waited for it composed. That fetches waiting from earlier entries are handed at a composition
is log entry 30, the model's choice. -/
def Obligations.FetchReturnFormsMacropixels : Prop :=
  (∀ s f a d rest pre post e r plan n, Claim.FetchNotLast s f a d rest pre post e r plan n) ∧
  (∀ s f a d rest pre post e r plan, Claim.FetchLast s f a d rest pre post e r plan) ∧
  (∀ s f a d rest pre post e r plan hs, Claim.FetchReleasesSet s f a d rest pre post e r plan hs) ∧
  (∀ s f a d rest pre post e plan hs, Claim.FetchPerformsOwed s f a d rest pre post e plan hs) ∧
  ∀ s f a d rest pre post e plan hs, Claim.FetchComposesWaiting s f a d rest pre post e plan hs

/-! ### Camera requests -/

/-- The evaluator as its activation on a camera that waits leaves it: by its mode LEARN, HOLD with cause PAUSED,
or OFF, its tables cleared (R48, R67). -/
def Sys2Proof.Claim.activatedEval (e e' : Evaluator) : Prop :=
  Cleared e' ∧ e'.mode = e.mode ∧ e'.restartCount = 0 ∧
    e'.state = match e.mode with
      | .run => .learn
      | .pause => .hold true false .learn
      | .stop => .off

/-- The camera's timers as R4 starts them: the lost timer always, the stale timer where it would run out
first. -/
def Sys2Proof.Claim.timersStarted (x : Camera) (now : Time) : Prop :=
  x.lostTimer = some (now + BitVec.ofNat 32 x.cfg.lostTime) ∧
    x.staleTimer =
      if x.cfg.staleTime < x.cfg.lostTime then some (now + BitVec.ofNat 32 x.cfg.staleTime) else none

/-- The report of a table clearing: VERDICT, where the verdict was not CLEAN (R47). -/
def Sys2Proof.Claim.clearingReported (s t : State) (c : CamId) : Prop :=
  if (s.cam c).eval.verdict = .clean then NoReport s t
  else Reported s t .verdict c.val (word32 (s.cam c).eval.verdict.code 0 0 0) 0

/-- R4, R23, R48, R67, R169: ARM of a DISARMED camera that passes the checks. -/
def Obligations.ArmRebuildsCamera : Prop :=
  ∀ (s : State) (p : PortTag) (c : CamId) (f : ReqFields), s.quiet →
    (s.cam c).chan = .disarmed → Claim.camFits (s.cam c).cfg.geom →
    ¬Claim.armClashes s c (s.cam c).cfg.geom →
    (∀ x ∈ (s.cam c).slots, x.holders = 0) →
    ∃ t, exec (.arm p c f) s = .next t ∧ Answered s t p (.camera c) 1 f .done ∧
      (t.cam c).cfg = (s.cam c).cfg ∧ (t.cam c).geom = (s.cam c).cfg.geom ∧
      (t.cam c).slots = List.replicate (s.cam c).cfg.geom.k ⟨.free, 0⟩ ∧
      (t.cam c).ready = [] ∧ (t.cam c).started = 0 ∧ (t.cam c).completed = 0 ∧
      (t.cam c).truncated = 0 ∧ (t.cam c).dropped = 0 ∧ (t.cam c).intake = none ∧
      (t.cam c).dropRun = false ∧ (t.cam c).chan = .waiting ∧ (t.cam c).gapTimer = none ∧
      Claim.timersStarted (t.cam c) s.timebase ∧
      (t.cam c).stats = ⟨Vector.replicate 48 ⟨0, 0⟩, 0, none⟩ ∧ (t.cam c).mapCount = 0 ∧
      Claim.activatedEval (s.cam c).eval (t.cam c).eval ∧ (t.cam c).eval.unfit = 0 ∧
      Claim.clearingReported s t c ∧ OthersKept s t c ∧
      t = { s with
        cams := t.cams
        ring := t.ring
        attention := t.attention
        words := t.words
        port := t.port
        arb := t.arb }

/-- R22, R23, R152: ARM gives the first result that applies. -/
def Sys2Proof.Claim.armRefused (s : State) (c : CamId) (r : Result) : Prop :=
  let g := (s.cam c).cfg.geom
  (s.cam c).chan ≠ .disarmed ∧ r = .refusedState ∨
    (s.cam c).chan = .disarmed ∧
      (¬Claim.camFits g ∧ r = .geometry ∨
        Claim.camFits g ∧ Claim.armClashes s c g ∧ r = .overlap ∨
        Claim.camFits g ∧ ¬Claim.armClashes s c g ∧ (∃ x ∈ (s.cam c).slots, x.holders ≠ 0) ∧ r = .busy)

/-- R98, R100, R152: ENABLE gives the first result that applies. -/
def Sys2Proof.Claim.enableRefused (s : State) (x : ScrId) (r : Result) : Prop :=
  let g := (s.screen x).cfg.geom
  (s.screen x).state ≠ .disabled ∧ r = .refusedState ∨
    (s.screen x).state = .disabled ∧
      (¬Claim.scrFits g ∧ r = .geometry ∨
        Claim.scrFits g ∧ Claim.enableClashes s x g ∧ r = .overlap ∨
        Claim.scrFits g ∧ ¬Claim.enableClashes s x g ∧
          ((s.screen x).active.isSome = true ∨ (s.screen x).retiring.isSome = true) ∧ r = .busy)

/-- The geometry that working settings describe: bases of 4 KiB aligned 40-bit addresses, K of 2 to 6 (R1, R80). -/
def Sys2Proof.Claim.GeometryUsed : Prop :=
  (∀ w : CamSettings, w.geom =
    ⟨w.intakeBase.toNat % 2 ^ 40 / 4096 * 4096, w.slotBase.toNat % 2 ^ 40 / 4096 * 4096, w.w.toNat,
      w.h.toNat, max 2 (min 6 w.k.toNat)⟩) ∧
  ∀ w : ScrSettings, w.geom =
    ⟨w.base.toNat % 2 ^ 40 / 4096 * 4096, w.ws.toNat, w.hs.toNat,
      if w.latchMode = 1 then .sync else if w.latchMode = 2 then .cycle else .readStart⟩

/-- R152, R163: one LIVE write beat that carries the ARM of two cameras whose intake windows meet: the requests
are taken by ascending word offset, each on the state the one before it left, so the lower camera is armed and
the other refused OVERLAP. -/
def Sys2Proof.Claim.TwoArmsInOneBeat (s : State) (p : PortTag) (a : Addr) (d : Beat) (c e : CamId) : Prop :=
  s.quiet → s.classify (beatBase a) = .live → beatBase a = s.controlBase + 0x80C0 → c < e →
    beatByte d (c.val * 4) = 1 → beatByte d (e.val * 4) = 1 →
    (∀ x, x = c ∨ x = e → (s.cam x).chan = .disarmed ∧ Claim.camFits (s.cam x).cfg.geom ∧
      ¬Claim.armClashes s x (s.cam x).cfg.geom ∧ ∀ q ∈ (s.cam x).slots, q.holders = 0) →
    Claim.share (Claim.window (s.cam c).cfg.geom) (Claim.window (s.cam e).cfg.geom) →
    Gives (.liveWriteAbsorbed p a d ((1 <<< (c.val * 4)) ||| (1 <<< (e.val * 4)))) s fun t =>
      t.mailbox (.camera c) = ((s.mailbox (.camera c)).take 1 ⟨none, none⟩).answer .done ∧
        t.mailbox (.camera e) = ((s.mailbox (.camera e)).take 1 ⟨none, none⟩).answer .overlap ∧
        (t.cam c).chan = .waiting ∧ (t.cam c).geom = (s.cam c).cfg.geom ∧ OthersKept s t c ∧
        (∀ o, o ≠ .camera c → o ≠ .camera e → t.mailbox o = s.mailbox o) ∧
        t = { s with
          cams := t.cams
          words := t.words
          port := (s.writeDone p).port
          ring := t.ring
          attention := t.attention
          arb := t.arb }

/-- R22, R23, R98, R100, R152, R163: a refused ARM or ENABLE gives the first result that applies and changes
neither camera nor screen: the sizes of the GEOMETRY check, the ranges of the OVERLAP check and the geometry the
settings describe are written out; of two ARMs in one beat the second is judged on the state the first left. -/
def Obligations.ArmEnableRefusedInOrder : Prop :=
  Claim.GeometryUsed ∧ (∀ (s : State) (p : PortTag) (f : ReqFields) (r : Result), s.quiet →
    (∀ c : CamId, Claim.armRefused s c r →
      ∃ t, exec (.arm p c f) s = .next t ∧ Answered s t p (.camera c) 1 f r ∧
        t = { s with port := t.port, words := t.words }) ∧
    (∀ x : ScrId, Claim.enableRefused s x r →
      ∃ t, exec (.enable p x f) s = .next t ∧ Answered s t p (.screen x) 1 f r ∧
        t = { s with port := t.port, words := t.words })) ∧
  ∀ s p a d c e, Claim.TwoArmsInOneBeat s p a d c e

/-- The camera after a DISARM, from the camera after the truncation that comes first: DISARMED, timers idle, the
evaluator OFF with its tables cleared; slots, ready list, counters, geometry and settings stay (R24, R67). -/
def Sys2Proof.Claim.disarmed (x x' : Camera) : Prop :=
  x'.chan = .disarmed ∧ x'.staleTimer = none ∧ x'.lostTimer = none ∧ x'.gapTimer = x.gapTimer ∧
    x'.eval.state = .off ∧ x'.eval.mode = x.eval.mode ∧ x'.eval.unfit = x.eval.unfit ∧
    (x.eval.state ≠ .off → Cleared x'.eval) ∧ x'.slots = x.slots ∧ x'.ready = x.ready ∧
    x'.intake = x.intake ∧ x'.geom = x.geom ∧ x'.cfg = x.cfg ∧ x'.stats = x.stats ∧
    x'.dropRun = x.dropRun ∧ x'.started = x.started ∧ x'.completed = x.completed ∧
    x'.truncated = x.truncated ∧ x'.dropped = x.dropped

/-- R24, R67: DISARM with no frame in progress. -/
def Sys2Proof.Claim.DisarmIdle (s : State) (p : PortTag) (c : CamId) (f : ReqFields) : Prop :=
  s.quiet → (s.cam c).chan ≠ .disarmed → (s.cam c).intake = none → s.engine.state ≠ .waitingFrame →
    Gives (.disarm p c f) s fun t =>
      Answered s t p (.camera c) 2 f .done ∧ Claim.disarmed (s.cam c) (t.cam c) ∧
        ((s.cam c).eval.state = .off ∨ (s.cam c).eval.verdict = .clean → NoReport s t) ∧
        OthersKept s t c ∧
        t = { s with
          cams := t.cams
          ring := t.ring
          attention := t.attention
          words := t.words
          port := t.port
          arb := t.arb }

/-- R16, R24: DISARM truncates a frame in progress, cause DISARM. The verdict is CLEAN, so no VERDICT report
follows. -/
def Sys2Proof.Claim.DisarmTruncates (s : State) (p : PortTag) (c : CamId) (f : ReqFields) (r : IntakeRec)
    (j : Nat) (q : BitVec 32) (n : Nat) (h : BitVec 13) : Prop :=
  s.quiet → (s.cam c).chan ≠ .disarmed → Claim.fills (s.cam c) r j q n h →
    s.engine.state ≠ .waitingFrame → (s.cam c).eval.verdict = .clean →
    Gives (.disarm p c f) s fun t =>
      Answered s t p (.camera c) 2 f .done ∧
        Claim.disarmed (Claim.truncated (s.cam c) j q n h) (t.cam c) ∧
        Reported s t .frameTruncated c.val (detail 4 0 r.linesDone) r.seq ∧ OthersKept s t c ∧
        t = { s with
          cams := t.cams
          ring := t.ring
          attention := t.attention
          words := t.words
          port := t.port
          arb := t.arb }

/-- R24, R136: DISARM ends the wait of a BURST of the camera: STORING with last result STALE, and SNAP_ENDED. -/
def Sys2Proof.Claim.DisarmEndsBurst (s : State) (p : PortTag) (c : CamId) (f : ReqFields) (n : DescId)
    (d : Loaded) : Prop :=
  s.quiet → (s.cam c).chan ≠ .disarmed → (s.cam c).intake = none → (s.cam c).eval.state = .off →
    s.engine.state = .waitingFrame → s.engine.running = some n → s.engine.loaded = some d →
    d.camera = c.val →
    Gives (.disarm p c f) s fun t =>
      Answered s t p (.camera c) 2 f .done ∧ Claim.disarmed (s.cam c) (t.cam c) ∧
        t.engine =
          { s.engine with
            state := .storing
            loaded := some { d with lastResult := 5 }
            ended := true } ∧
        Reported s t .snapEnded n.val (detail 5 d.camera d.remaining.toNat) d.lastSeq ∧
        OthersKept s t c ∧
        t = { s with
          cams := t.cams
          engine := t.engine
          ring := t.ring
          attention := t.attention
          words := t.words
          port := t.port
          arb := t.arb }

/-- R22: DISARM of a DISARMED camera is answered DONE and changes nothing. -/
def Sys2Proof.Claim.DisarmNothing (s : State) (p : PortTag) (c : CamId) (f : ReqFields) : Prop :=
  s.quiet → (s.cam c).chan = .disarmed → Gives (.disarm p c f) s fun t =>
    Answered s t p (.camera c) 2 f .done ∧ t = { s with port := t.port, words := t.words }

/-- R16, R22, R24, R67, R136: DISARM of an armed camera: a frame in progress is truncated, the timers are idle, the
camera is DISARMED, its evaluator is OFF, a BURST that waits for it ends; slots, ready list, counters and
geometry are kept. Of a DISARMED camera it changes nothing. -/
def Obligations.DisarmKeepsSlots : Prop :=
  (∀ s p c f, Claim.DisarmIdle s p c f) ∧
  (∀ s p c f r j q n h, Claim.DisarmTruncates s p c f r j q n h) ∧
  (∀ s p c f n d, Claim.DisarmEndsBurst s p c f n d) ∧ ∀ s p c f, Claim.DisarmNothing s p c f

/-- R16, R25: SKIP truncates a frame in progress that is stored, cause SKIP, and touches nothing else. -/
def Sys2Proof.Claim.SkipStored (s : State) (p : PortTag) (c : CamId) (f : ReqFields) (r : IntakeRec)
    (j : Nat) (q : BitVec 32) (n : Nat) (h : BitVec 13) : Prop :=
  s.quiet → (s.cam c).chan ≠ .disarmed → Claim.fills (s.cam c) r j q n h →
    Gives (.skip p c f) s fun t =>
      Answered s t p (.camera c) 3 f .done ∧ t.cam c = Claim.truncated (s.cam c) j q n h ∧
        Reported s t .frameTruncated c.val (detail 2 0 r.linesDone) r.seq ∧ OthersKept s t c ∧
        t = { s with
          cams := t.cams
          ring := t.ring
          attention := t.attention
          words := t.words
          port := t.port
          arb := t.arb }

/-- R16, R25: SKIP of a frame that is dropping; no slot is touched. -/
def Sys2Proof.Claim.SkipDropping (s : State) (p : PortTag) (c : CamId) (f : ReqFields) (r : IntakeRec) : Prop :=
  s.quiet → (s.cam c).chan ≠ .disarmed → (s.cam c).intake = some r → r.target = none →
    Gives (.skip p c f) s fun t =>
      Answered s t p (.camera c) 3 f .done ∧
        t.cam c =
          { s.cam c with
            truncated := (s.cam c).truncated + 1
            intake := none
            gapTimer := none
            stats :=
              { (s.cam c).stats with sums := Vector.replicate 48 ⟨0, 0⟩, carry := 0 } } ∧
        Reported s t .frameTruncated c.val (detail 2 1 r.linesDone) r.seq ∧ OthersKept s t c ∧
        t = { s with
          cams := t.cams
          ring := t.ring
          attention := t.attention
          words := t.words
          port := t.port
          arb := t.arb }

/-- R22, R25: SKIP with no frame in progress changes nothing but the words, and of a DISARMED camera is refused. -/
def Sys2Proof.Claim.SkipNothing (s : State) (p : PortTag) (c : CamId) (f : ReqFields) : Prop :=
  s.quiet → ((s.cam c).chan = .disarmed ∨ (s.cam c).intake = none) →
    Gives (.skip p c f) s fun t =>
      Answered s t p (.camera c) 3 f
          (if (s.cam c).chan = .disarmed then .refusedState else .done) ∧
        t = { s with port := t.port, words := t.words }

/-- R16, R22, R25: SKIP truncates the frame in progress of an armed camera, stored or dropping; the channel
state, the timers of the liveness, the ready list and the evaluator are not touched. -/
def Obligations.SkipTruncates : Prop :=
  (∀ s p c f r j q n h, Claim.SkipStored s p c f r j q n h) ∧
  (∀ s p c f r, Claim.SkipDropping s p c f r) ∧ ∀ s p c f, Claim.SkipNothing s p c f

/-- The camera after a RESET, from the camera after the truncation that comes first: WAITING, timers started
anew, drop-run flag clear, evaluator activated; slots, ready list, counters and geometry stay (R26, R67). -/
def Sys2Proof.Claim.wasReset (x x' : Camera) (now : Time) : Prop :=
  x'.chan = .waiting ∧ x'.dropRun = false ∧ x'.cfg = x.cfg ∧ Claim.timersStarted x' now ∧
    x'.gapTimer = x.gapTimer ∧ x'.intake = x.intake ∧ x'.slots = x.slots ∧ x'.ready = x.ready ∧
    x'.geom = x.geom ∧ x'.stats = x.stats ∧ x'.started = x.started ∧ x'.completed = x.completed ∧
    x'.truncated = x.truncated ∧ x'.dropped = x.dropped ∧ Claim.activatedEval x.eval x'.eval ∧
    x'.eval.unfit = x.eval.unfit ∧ x'.mapCount = x.mapCount + 1

/-- R26, R67: RESET with no frame in progress. -/
def Sys2Proof.Claim.ResetIdle (s : State) (p : PortTag) (c : CamId) (f : ReqFields) : Prop :=
  s.quiet → (s.cam c).chan ≠ .disarmed → (s.cam c).intake = none →
    Gives (.reset p c f) s fun t =>
      Answered s t p (.camera c) 4 f .done ∧ Claim.wasReset (s.cam c) (t.cam c) s.timebase ∧
        Claim.clearingReported s t c ∧ OthersKept s t c ∧
        t = { s with
          cams := t.cams
          ring := t.ring
          attention := t.attention
          words := t.words
          port := t.port
          arb := t.arb }

/-- R16, R26: RESET truncates a frame in progress, cause RESET. The verdict is CLEAN, so no VERDICT report
follows. -/
def Sys2Proof.Claim.ResetTruncates (s : State) (p : PortTag) (c : CamId) (f : ReqFields) (r : IntakeRec)
    (j : Nat) (q : BitVec 32) (n : Nat) (h : BitVec 13) : Prop :=
  s.quiet → (s.cam c).chan ≠ .disarmed → Claim.fills (s.cam c) r j q n h →
    (s.cam c).eval.verdict = .clean →
    Gives (.reset p c f) s fun t =>
      Answered s t p (.camera c) 4 f .done ∧
        Claim.wasReset (Claim.truncated (s.cam c) j q n h) (t.cam c) s.timebase ∧
        Reported s t .frameTruncated c.val (detail 3 0 r.linesDone) r.seq ∧ OthersKept s t c ∧
        t = { s with
          cams := t.cams
          ring := t.ring
          attention := t.attention
          words := t.words
          port := t.port
          arb := t.arb }

/-- R22: RESET of a DISARMED camera is refused and changes nothing. -/
def Sys2Proof.Claim.ResetRefused (s : State) (p : PortTag) (c : CamId) (f : ReqFields) : Prop :=
  s.quiet → (s.cam c).chan = .disarmed → Gives (.reset p c f) s fun t =>
    Answered s t p (.camera c) 4 f .refusedState ∧ t = { s with port := t.port, words := t.words }

/-- R4, R16, R22, R26, R48, R67: RESET of an armed camera: a frame in progress is truncated; WAITING, both timers as
R4 starts them, drop-run flag clear, evaluator activated by its mode; slots, ready list, counters and geometry
are kept. Of a DISARMED camera it is refused. The map count rises with the clearing of the tables, also where
they are clear already: the model's reading of R169, log entry 9. -/
def Obligations.ResetReturnsToWaiting : Prop :=
  (∀ s p c f, Claim.ResetIdle s p c f) ∧
  (∀ s p c f r j q n h, Claim.ResetTruncates s p c f r j q n h) ∧ ∀ s p c f, Claim.ResetRefused s p c f

/-- The evaluator's state once the PAUSED cause is removed: HOLD while STALE is a cause, else the resume target
(R49). -/
def Sys2Proof.Claim.unpaused : EvState → EvState
  | .hold _ true q => .hold false true q
  | .hold _ false .learn => .learn
  | .hold _ false .watch => .watch
  | st => st

/-- The evaluator's state once the PAUSED cause is added (R49). -/
def Sys2Proof.Claim.paused : EvState → EvState
  | .learn => .hold true false .learn
  | .watch => .hold true false .watch
  | .hold _ st q => .hold true st q
  | st => st

/-- The state that activation enters on an armed camera, in mode PAUSE or RUN, by the channel state and the
recovery setting (R48). -/
def Sys2Proof.Claim.activation (pause keep : Bool) : Channel → EvState
  | .disarmed => .off
  | .waiting => if pause then .hold true false .learn else .learn
  | .live => if pause then .hold true false .learn else .learn
  | .stale => .hold pause true .learn
  | .lost => if keep then .hold pause true .learn else .restartWait

/-- R59, R60: EVAL_RUN, or EVAL_PAUSE, of an evaluator that is not OFF sets the mode and removes, or adds, the
PAUSED cause; RESTART_WAIT keeps its state. After EVAL_PAUSE a RELEARN before it is past (log entry 31). -/
def Sys2Proof.Claim.RunOrPause (s : State) (p : PortTag) (c : CamId) (f : ReqFields) (pause : Bool) : Prop :=
  s.quiet → (s.cam c).eval.state ≠ .off →
    Gives (if pause then .evalPause p c f else .evalRun p c f) s fun t =>
      let e := (s.cam c).eval
      Answered s t p (.camera c) (if pause then 6 else 5) f .done ∧
        t = { s.setCam c
            { s.cam c with
              eval :=
                { e with
                  mode := if pause then .pause else .run
                  state := if pause then Claim.paused e.state else Claim.unpaused e.state
                  relearnCount := if pause then none else e.relearnCount } } with
          port := t.port
          words := t.words }

/-- R48, R59, R60: EVAL_RUN, or EVAL_PAUSE, of an evaluator that is OFF: on an armed camera it is activated with
cleared tables, by the channel state; on a DISARMED one the mode alone is set. On a LOST camera the recovery
setting is read at the activation (the model's choice, log entry 29), and the map count rises with the clearing
(R169; log entry 9, the model's reading where the tables are clear already). -/
def Sys2Proof.Claim.Activates (s : State) (p : PortTag) (c : CamId) (f : ReqFields) (pause : Bool) : Prop :=
  s.quiet → (s.cam c).eval.state = .off →
    Gives (if pause then .evalPause p c f else .evalRun p c f) s fun t =>
      let e' := (t.cam c).eval
      let m : EvMode := if pause then .pause else .run
      Answered s t p (.camera c) (if pause then 6 else 5) f .done ∧
        (if (s.cam c).chan = .disarmed then
          t.cam c = { s.cam c with eval := { (s.cam c).eval with mode := m } } ∧ NoReport s t
        else
          e'.state = Claim.activation pause (s.cam c).cfg.keep (s.cam c).chan ∧ e'.mode = m ∧
            Cleared e' ∧ e'.restartCount = 0 ∧ e'.unfit = (s.cam c).eval.unfit ∧
            t.cam c = { s.cam c with eval := e', mapCount := (s.cam c).mapCount + 1 } ∧
            Claim.clearingReported s t c) ∧
        OthersKept s t c ∧
        t = { s with
          cams := t.cams
          ring := t.ring
          attention := t.attention
          words := t.words
          port := t.port
          arb := t.arb }

/-- R47, R61, R169: EVAL_STOP of an evaluator that is not OFF clears the tables and goes OFF, the map count rising
(log entry 9 where they are clear already); of one that is OFF it sets the mode alone. -/
def Sys2Proof.Claim.Stops (s : State) (p : PortTag) (c : CamId) (f : ReqFields) : Prop :=
  s.quiet →
    Gives (.evalStop p c f) s fun t =>
      let e' := (t.cam c).eval
      Answered s t p (.camera c) 7 f .done ∧
        (if (s.cam c).eval.state = .off then
          t.cam c = { s.cam c with eval := { (s.cam c).eval with mode := .stop } } ∧ NoReport s t
        else
          e'.state = .off ∧ e'.mode = .stop ∧ Cleared e' ∧ e'.unfit = (s.cam c).eval.unfit ∧
            t.cam c = { s.cam c with eval := e', mapCount := (s.cam c).mapCount + 1 } ∧
            Claim.clearingReported s t c) ∧
        OthersKept s t c ∧
        t = { s with
          cams := t.cams
          ring := t.ring
          attention := t.attention
          words := t.words
          port := t.port
          arb := t.arb }

/-- R48, R49, R59, R60, R61, R169: the evaluator's mode requests in every state. The map count rises where the
tables are cleared, also where they are clear already: that is the model's reading of R169, log entry 9. -/
def Obligations.EvalRequests : Prop :=
  (∀ s p c f pause, Claim.RunOrPause s p c f pause) ∧ (∀ s p c f pause, Claim.Activates s p c f pause) ∧
    ∀ s p c f, Claim.Stops s p c f

/-- What RELEARN makes of an evaluator in LEARN, WATCH or HOLD: its tables are cleared and learning starts anew, in
HOLD once the causes are gone; mode, restart count and unfit count stay. The count that was cleared is kept for a
completion of the same moment, but not with the cause PAUSED (R68, row 1; log entry 31). -/
def Sys2Proof.Claim.relearnt (e e' : Evaluator) : Prop :=
  Cleared { e' with relearnCount := none } ∧
    e'.relearnCount = (match e'.state with
      | .hold true _ _ => none
      | _ => some (e.relearnCount.getD e.eligible)) ∧
    e'.mode = e.mode ∧ e'.restartCount = e.restartCount ∧ e'.unfit = e.unfit ∧
    e'.state = match e.state with
      | .hold paused stale _ => .hold paused stale .learn
      | _ => .learn

/-- R62, R68: RELEARN by the evaluator's state: refused in OFF; in WATCH and LEARN learning starts anew; in HOLD
the causes stay and the resume target is LEARN; in RESTART_WAIT nothing changes. Where the tables are
cleared a verdict that was not CLEAN is reported, and one that was is not; the rest of the camera is as it was.
That the map count rises where the tables were clear already is log entry 9, and that the cleared count is kept
for a completion of the same moment is log entry 31, the model's choices. -/
def Obligations.RelearnByState : Prop :=
  ∀ (s : State) (p : PortTag) (c : CamId) (f : ReqFields), s.quiet →
    Gives (.relearn p c f) s fun t =>
      Answered s t p (.camera c) 8 f
        (if (s.cam c).eval.state = .off then .refusedState else .done) ∧
      (if (s.cam c).eval.state = .off ∨ (s.cam c).eval.state = .restartWait then
        t = { s with port := t.port, words := t.words }
      else
        Claim.relearnt (s.cam c).eval (t.cam c).eval ∧
          t.cam c =
            { s.cam c with eval := (t.cam c).eval, mapCount := (s.cam c).mapCount + 1 } ∧
          Claim.clearingReported s t c) ∧
      OthersKept s t c ∧
      t = { s with
        cams := t.cams
        ring := t.ring
        attention := t.attention
        words := t.words
        port := t.port
        arb := t.arb }

/-- R163, R164: a LIVE write beat at 80C0h whose code bytes name no request: every word whose code byte is enabled
and not 0 takes the request, with the tag and index bytes that are enabled, and is answered UNKNOWN_CODE; every
other word is as it was. -/
def Sys2Proof.Claim.UnknownCodesInOneBeat (s : State) (p : PortTag) (a : Addr) (d : Beat) (en : Enables) : Prop :=
  s.quiet → s.classify (beatBase a) = .live → beatBase a = s.controlBase + 0x80C0 →
    (∀ o : Owner, o ≠ .part → en.getLsbD (wordAt o) = true → beatByte d (wordAt o) ≠ 0 →
      o.codes < (beatByte d (wordAt o)).toNat) →
    Gives (.liveWriteAbsorbed p a d en) s fun t =>
      (∀ o : Owner, o ≠ .part → t.mailbox o =
        if en.getLsbD (wordAt o) = true ∧ beatByte d (wordAt o) ≠ 0 then
          ((s.mailbox o).take (beatByte d (wordAt o))
            ⟨if en.getLsbD (wordAt o + 1) then some (beatByte d (wordAt o + 1)) else none,
              if en.getLsbD (wordAt o + 2) then some (beatByte d (wordAt o + 2)) else none⟩).answer
            .unknownCode
        else s.mailbox o) ∧
      t.mailbox .part = s.mailbox .part ∧
      t = { s with words := t.words, port := (s.writeDone p).port }

/-- R163, R164, R168: a code that names no request of the word's owner is answered UNKNOWN_CODE, several in one
beat each in its own word; a LIVE write beat at a beat of the page that holds neither a request word nor the
consumer index changes nothing at all. Beyond the words, none changes any block. -/
def Obligations.UnknownCodesAndAbsorbedWords : Prop :=
  (∀ (s : State) (p : PortTag), s.quiet →
    (∀ (o : Owner) (code : Byte) (f : ReqFields), o.codes < code.toNat →
      ∃ t, exec (.unknownCode p o code f) s = .next t ∧ Answered s t p o code f .unknownCode ∧
        t = { s with port := t.port, words := t.words }) ∧
    (∀ (a : Addr) (d : Beat) (en : Enables), s.classify (beatBase a) = .live →
      (beatBase a - s.controlBase - 0x8000) / 64 ≠ 0 →
      (beatBase a - s.controlBase - 0x8000) / 64 ≠ 2 →
      (beatBase a - s.controlBase - 0x8000) / 64 ≠ 3 →
      exec (.liveWriteAbsorbed p a d en) s = .next (s.writeDone p))) ∧
  ∀ s p a d en, Claim.UnknownCodesInOneBeat s p a d en

/-- R175: the consumer index takes the written value modulo 64, or the producer index where the value lies
forward of it; the overflow flag is cleared and the lost count is 0; the REPORTS flag and the interrupt line
follow the new index. -/
def Obligations.ConsumerIndexWritten : Prop :=
  ∀ (s : State) (p : PortTag) (v : Byte), s.quiet →
    let old := s.ring.consumer.toNat
    let ahead := (v.toNat % 64 + 64 - old) % 64
    let filled := (s.ring.producer.toNat + 64 - old) % 64
    ∃ t, exec (.consumerIndexWrite p v) s = .next t ∧
      t.ring.consumer.toNat = (if filled < ahead then s.ring.producer.toNat else v.toNat % 64) ∧
      t.sideFlags.reports = (s.ring.producer != t.ring.consumer) ∧
      t.interrupt = (s.ring.intEnable && s.ring.producer != t.ring.consumer) ∧
      t = { s with
        ring := { s.ring with consumer := t.ring.consumer, overflow := false, lost := 0 }
        port := (s.writeDone p).port }

/-- A word of a live page beat: offset, size, and its value, absent where the item it shows is absent. -/
abbrev Sys2Proof.Claim.PageWord := Nat × Nat × Option Nat

/-- A beat shows the words, little-endian, and every byte that lies in none of them reads 0 (R168, R178). -/
def Sys2Proof.Claim.showsPage (d : Beat) (ws : List Claim.PageWord) : Prop :=
  (∀ w ∈ ws, w.2.2.all (fun v => beatLe d w.1 w.2.1 = v % 256 ^ w.2.1) = true) ∧
    ∀ i : Fin 64, (∀ w ∈ ws, ¬(w.1 ≤ i.val ∧ i.val < w.1 + w.2.1)) → d[i] = 0

/-- Flags as bits, bit 0 first. -/
def Sys2Proof.Claim.bits : List Bool → Nat
  | [] => 0
  | b :: rest => b.toNat + 2 * Claim.bits rest

/-- 8000h: the part beat (11.5). -/
def Sys2Proof.Claim.partWords (s : State) : List Claim.PageWord :=
  [(0x00, 2, some 0x6320), (0x02, 1, some 2), (0x04, 4, some s.timebase.toNat),
    (0x08, 5, some (s.strapBase.toNat * 65536)), (0x0D, 1, some (max 10 (min 200 s.strapMhz))),
    (0x0E, 2, some s.part.masks.toNat), (0x10, 1, some s.part.intEnable.toNat),
    (0x18, 1, some s.ring.producer.toNat), (0x19, 1, some s.ring.consumer.toNat),
    (0x1A, 1, some s.ring.overflow.toNat), (0x1C, 2, some s.ring.lost.toNat)]

/-- A request word at `o`: code, tag, index (11.5). -/
def Sys2Proof.Claim.requestWords (m : Mailbox) (o : Nat) : List Claim.PageWord :=
  [(o, 1, some m.code.toNat), (o + 1, 1, some m.tag.toNat), (o + 2, 1, some m.index.toNat)]

/-- An answer word at `o`: tag, result, open, and the open tag, 0 while open is clear (R165, 11.5). -/
def Sys2Proof.Claim.answerWords (m : Mailbox) (o : Nat) : List Claim.PageWord :=
  [(o, 1, some m.ansTag.toNat), (o + 1, 1, some m.result.code),
    (o + 2, 1, some m.openTag.isSome.toNat), (o + 3, 1, some (m.openTag.elim 0 BitVec.toNat))]

/-- Every owner but the part. -/
def Sys2Proof.Claim.owners : List Owner :=
  allCams.map .camera ++ allScreens.map .screen ++ [.engine]

/-- One entrance line's words (11.5). -/
def Sys2Proof.Claim.lineWords (x : Line) (o : Nat) : List Claim.PageWord :=
  [(o, 1, some x.pin.toNat), (o + 1, 1, some x.raw.toNat), (o + 2, 1, some x.accepted.toNat),
    (o + 3, 1, some x.filterTimer.isSome.toNat), (o + 4, 4, x.filterTimer.map BitVec.toNat),
    (o + 8, 2, some x.edges.toNat), (o + 0xA, 2, some x.rejected.toNat),
    (o + 0xC, 1, some (x.cfg.polarity.toNat % 2)), (o + 0xE, 2, some x.cfg.filterTime.toNat)]

/-- The snapshot engine's words (11.5, R129); of the loaded copy the seven fields that have bytes (log entry 32). -/
def Sys2Proof.Claim.engineWords (e : Engine) : List Claim.PageWord :=
  [(0x00, 1, some e.state.code), (0x01, 1, some e.enable.toNat), (0x02, 2, some e.pending.toNat),
    (0x04, 1, some (e.continuation.elim 0xFF Fin.val)),
    (0x05, 1, some (e.running.elim 0xFF Fin.val)),
    (0x06, 1, some (e.source.elim 0xFF fun x => x.1.val)),
    (0x07, 1, some (e.source.elim 0xFF Prod.snd)), (0x08, 2, some e.coalesced.toNat),
    (0x0A, 1, some e.held.length), (0x2C, 2, e.loaded.map fun d => d.remaining.toNat),
    (0x2E, 2, e.loaded.map fun d => d.nextPlace.toNat),
    (0x30, 2, e.loaded.map fun d => d.completions.toNat),
    (0x32, 1, e.loaded.map fun d => d.lastResult.toNat),
    (0x33, 1, e.loaded.map fun d => Claim.bits [d.enable, d.armed]),
    (0x34, 4, e.loaded.map fun d => d.lastSeq.toNat)] ++
    (List.range 16).flatMap fun i =>
      [(0x0C + 2 * i, 1, e.held[i]?.map fun x => x.desc.val),
        (0x0D + 2 * i, 1, e.held[i]?.map HeldDone.finishes)]

/-- A trigger copy's words (11.5). -/
def Sys2Proof.Claim.copyWords (u : TriggerCopy) (o : Nat) : List Claim.PageWord :=
  [(o, 1, some (u.enable.toNat % 2 + 2 * (u.armed.toNat % 2) + 4 * (u.camera.toNat % 8))),
    (o + 1, 1, some ((if u.source.toNat ≤ 3 then u.source.toNat else 0) + 4 * (u.edge.toNat % 8))),
    (o + 2, 2, some u.remaining.toNat)]

/-- Beat 0 of a camera (11.5); the intake flags stand apart. -/
def Sys2Proof.Claim.cameraWords (x : Camera) : List Claim.PageWord :=
  [(0x00, 1, some x.chan.code), (0x01, 1, some x.dropRun.toNat),
    (0x02, 1, some (Claim.bits [x.staleTimer.isSome, x.lostTimer.isSome, x.gapTimer.isSome])),
    (0x04, 4, x.staleTimer.map BitVec.toNat), (0x08, 4, x.lostTimer.map BitVec.toNat),
    (0x0C, 4, x.gapTimer.map BitVec.toNat), (0x10, 4, some x.started.toNat),
    (0x14, 4, some x.completed.toNat), (0x18, 4, some x.truncated.toNat),
    (0x1C, 4, some x.dropped.toNat), (0x20, 1, some x.ready.length),
    (0x28, 1, x.intake.map fun r => Claim.bits [true, r.disordered, r.target.isNone]),
    (0x29, 1, some ((x.intake.bind IntakeRec.target).getD 0xFF)),
    (0x2A, 2, x.intake.map IntakeRec.linesDone), (0x2C, 4, x.intake.map IntakeRec.cursor),
    (0x30, 4, x.intake.map fun r => r.seq.toNat),
    (0x34, 4, x.intake.map fun r => r.lastBeat.toNat)] ++
    (List.range 6).map fun i => (0x21 + i, 1, x.ready[i]?)

/-- Beat 1 of a camera: effective and working geometry, the evaluator, the last-values record (11.5, R69). -/
def Sys2Proof.Claim.evaluatorWords (x : Camera) : List Claim.PageWord :=
  let e := x.eval
  [(0x00, 5, some x.geom.intakeBase), (0x05, 1, some x.geom.k), (0x06, 2, some x.geom.w),
    (0x08, 5, some x.geom.slotBase), (0x0E, 2, some x.geom.h),
    (0x10, 5, some x.cfg.intakeBase.toNat), (0x15, 1, some x.cfg.k.toNat),
    (0x16, 2, some x.cfg.w.toNat), (0x18, 5, some x.cfg.slotBase.toNat),
    (0x1E, 2, some x.cfg.h.toNat), (0x20, 1, some e.state.code), (0x21, 1, some e.mode.code),
    (0x22, 1, some (match e.state with
      | .hold p q _ => Claim.bits [p, q]
      | _ => 0)),
    (0x23, 1, some (match e.state with
      | .hold _ _ .learn => 1
      | .hold _ _ .watch => 2
      | _ => 0)),
    (0x24, 1, some e.learnProgress), (0x25, 1, some e.restartCount), (0x26, 1, some e.eligible),
    (0x27, 1, some e.level), (0x28, 1, some e.verdict.code),
    (0x29, 1, some (x.stats.last.elim 0 fun v => v.fit.toNat)), (0x2A, 2, some e.unfit.toNat),
    (0x2C, 2, some x.mapCount.toNat), (0x2E, 1, some (x.stats.last.elim 0 LastValues.camMean)),
    (0x30, 4, some (x.stats.last.elim 0 fun v => v.seq.toNat))]

/-- Slot `j` in beat 2 of a camera (11.5). -/
def Sys2Proof.Claim.slotWords (x : Camera) (j : Nat) : List Claim.PageWord :=
  match x.slots[j]? with
  | none => []
  | some q =>
    match q.content with
    | .free => [(j * 10, 2, some q.holders.toNat), (j * 10 + 2, 4, none), (j * 10 + 6, 4, none)]
    | .filling u n =>
      [(j * 10, 2, some (q.holders.toNat + 0x4000)), (j * 10 + 2, 4, some u.toNat),
        (j * 10 + 6, 4, some n)]
    | .ready u w =>
      [(j * 10, 2, some (q.holders.toNat + 0x8000)), (j * 10 + 2, 4, some u.toNat),
        (j * 10 + 6, 4, some w.toNat)]
    | .torn u n =>
      [(j * 10, 2, some (q.holders.toNat + 0xC000)), (j * 10 + 2, 4, some u.toNat),
        (j * 10 + 6, 4, some n)]

/-- Beat `k` of a camera's dirt map (11.5, R69). -/
def Sys2Proof.Claim.mapWords (x : Camera) (k : Nat) : List Claim.PageWord :=
  (0x00, 2, some x.mapCount.toNat) ::
    (List.range 10).flatMap fun i =>
      match x.eval.tiles[10 * k + i]? with
      | none => []
      | some q =>
        [(2 + 6 * i, 2, some (x.stats.last.elim 0 fun v => v.texture.toList.getD (10 * k + i) 0)),
          (4 + 6 * i, 2, some q.baseline),
          (6 + 6 * i, 1, some (Claim.bits
            [q.history.newest, q.history.middle, q.history.oldest, q.confirmed])),
          (7 + 6 * i, 1, some q.count)]

/-- Beat 0 of a screen (11.5); no committed layouts (log entry 32), and the sync level as 1 for high (log entry 33). -/
def Sys2Proof.Claim.screenWords (y : Screen) : List Claim.PageWord :=
  let under := fun r => y.table.countP fun e => match e.state with
    | .fetching q _ _ => q == r
    | .waiting => false
  [(0x00, 1, some y.state.code), (0x01, 1, some y.geom.mode.code),
    (0x02, 1, some (y.choice.elim 0xFF LayoutChoice.code)),
    (0x03, 1, some y.pendingCommit.isSome.toNat), (0x04, 1, y.pendingCommit.map BitVec.toNat),
    (0x05, 1, some y.owed.toNat), (0x06, 1, some y.sync.toNat),
    (0x07, 1, some (Claim.bits [y.offsetTimer.isSome, y.cycleTimer.isSome])),
    (0x08, 4, y.offsetTimer.map BitVec.toNat), (0x0C, 4, y.cycleTimer.map BitVec.toNat),
    (0x10, 2, some (y.lastLine.getD 0xFFFF)), (0x12, 2, some y.ignoredSyncs.toNat),
    (0x14, 4, some y.latchCount.toNat), (0x18, 5, some y.geom.base), (0x1E, 2, some y.geom.ws),
    (0x20, 2, some y.geom.hs), (0x22, 1, some (y.table.countP fun e => e.state == .waiting)),
    (0x23, 1, some (under .active)), (0x24, 1, some (under .retiring)),
    (0x25, 1, some y.misuse.toNat), (0x26, 2, some y.misuseCount.toNat),
    (0x28, 5, some y.cfg.base.toNat), (0x2D, 1, some y.cfg.latchMode.toNat),
    (0x2E, 2, some y.cfg.ws.toNat), (0x30, 2, some y.cfg.hs.toNat)]

/-- A hold set at `o` (11.5). -/
def Sys2Proof.Claim.setWords (hs : Option HoldSet) (o : Nat) : List Claim.PageWord :=
  [(o, 1, some (hs.elim 0xFF fun h => h.choice.code)), (o + 1, 1, hs.map HoldSet.border),
    (o + 2, 1, hs.map fun h => min 8 h.layout.count.toNat)] ++
    allCams.flatMap fun c =>
      match hs.bind fun h => h.cams[c] with
      | none => [(o + 3 + 3 * c.val, 3, some 0xFFFFFF)]
      | some e =>
        [(o + 3 + 3 * c.val, 1, some (e.primary.getD 0xFF)),
          (o + 4 + 3 * c.val, 1, some (e.fallback.getD 0xFF)),
          (o + 5 + 3 * c.val, 1, some e.overlay.code)]

/-- The codes of 11.6 that the page shows. -/
def Sys2Proof.Claim.codes : Prop :=
  [Channel.disarmed, .waiting, .live, .stale, .lost].map Channel.code = [0, 1, 2, 3, 4] ∧
    [EvState.off, .learn, .watch, .hold true true .learn, .restartWait].map EvState.code =
      [0, 1, 2, 3, 4] ∧
    [EvMode.stop, .run, .pause].map EvMode.code = [0, 1, 2] ∧
    [Verdict.clean, .suspect, .dirty].map Verdict.code = [0, 1, 2] ∧
    [Overlay.none, .fill, .stale, .warn].map Overlay.code = [0, 1, 2, 3] ∧
    [ScrState.disabled, .waitLatch, .running].map ScrState.code = [0, 1, 2] ∧
    [LatchMode.readStart, .sync, .cycle].map LatchMode.code = [0, 1, 2] ∧
    LayoutChoice.normal.code = 0 ∧ (∀ l : LineId, (LayoutChoice.entrance l).code = l.val + 1) ∧
    [EngState.disabled, .idle, .loading, .copying, .waitingFrame, .storing].map EngState.code =
      [0, 1, 2, 3, 4, 5] ∧
    [Result.done, .inProgress, .busy, .refusedState, .geometry, .overlap, .disabled,
      .unknownCode].map Result.code = [0, 1, 2, 3, 4, 5, 6, 7]

/-- R69, R77, R129, R155, R169, 11.5: beat `k` of the live page, `k` counted from 8000h, is `d`. The bytes between
the words are 0: that the committed layouts, the pane entries and colours of a set and the other fields of the
loaded copy, which R83 and R129 have shown, stand nowhere is the model's choice, log entry 32. -/
def Sys2Proof.Claim.pageBeat (s : State) (k : Nat) (d : Beat) : Prop :=
  (k = 0 → Claim.showsPage d (Claim.partWords s)) ∧
  (k = 2 → Claim.showsPage d (Claim.requestWords (s.mailbox .part) 0)) ∧
  (k = 3 → Claim.showsPage d
    (Claim.owners.flatMap fun o => Claim.requestWords (s.mailbox o) (wordAt o))) ∧
  (k = 4 → Claim.showsPage d (Claim.answerWords (s.mailbox .part) 0 ++
    Claim.owners.flatMap fun o => Claim.answerWords (s.mailbox o) (wordAt o + 4))) ∧
  (k = 5 → Claim.showsPage d (allLines.flatMap fun l => Claim.lineWords (s.line l) (l.val * 16))) ∧
  (k = 6 → Claim.showsPage d (Claim.engineWords s.engine)) ∧
  (k = 7 → Claim.showsPage d
    (allDescs.flatMap fun n => Claim.copyWords (s.engine.copyOf n) (n.val * 4))) ∧
  (∀ c : CamId,
    (k = 8 + 3 * c.val → Claim.showsPage d (Claim.cameraWords (s.cam c)) ∧
      d[0x28].getLsbD 0 = (s.cam c).intake.isSome) ∧
    (k = 9 + 3 * c.val → Claim.showsPage d (Claim.evaluatorWords (s.cam c))) ∧
    (k = 10 + 3 * c.val → Claim.showsPage d
      ((List.range 6).flatMap (Claim.slotWords (s.cam c)))) ∧
    ∀ m : Fin 5, k = 26 + 5 * c.val + m.val → Claim.showsPage d (Claim.mapWords (s.cam c) m.val)) ∧
  (∀ x : ScrId,
    (k = 56 + 2 * x.val → Claim.showsPage d (Claim.screenWords (s.screen x))) ∧
    (k = 57 + 2 * x.val → Claim.showsPage d
      (Claim.setWords (s.screen x).active 0 ++ Claim.setWords (s.screen x).retiring 0x18))) ∧
  (62 ≤ k → ∀ i : Fin 64, d[i] = 0)

/-- R168, R169, R178: a live read of any beat but the summary's is answered at its acceptance with the page's
contents of that moment, and changes nothing but the count of live reads (the model's own, log entry 18). What
absent items show is left open. -/
def Sys2Proof.Claim.PageRead (s : State) (p : PortTag) (a : Addr) : Prop :=
  s.quiet → s.classify (beatBase a) = .live → beatBase a ≠ s.controlBase + 0x8040 →
    ∃ d, exec (.attentionSummaryRead p a) s = .next
        { s with
          liveReads := s.liveReads + 1
          port := (s.port.accept p false [some ⟨d, s.sideFlags⟩]).flush } ∧
      Claim.pageBeat s ((beatBase a - s.controlBase - 0x8000) / 64) d

/-- R168, R169, R170: a live read of the summary's beat returns the five groups in bits 0 to 4 of its first byte,
zeros in the others, and clears all five; one of any other beat returns that beat's words and clears nothing.
The model's choices and readings in the words of a beat: what absent items show (log entry 18), settings as merged
or as used (log entry 28), no byte for items to which 11.5 gives none (log entry 32), and 1 for a high sync level
of a screen (log entry 33). -/
def Obligations.AttentionReadClears : Prop :=
  (∀ (s : State) (p : PortTag) (a : Addr), s.quiet → s.classify (beatBase a) = .live →
    beatBase a = s.controlBase + 0x8040 →
    ∃ t d, exec (.attentionSummaryRead p a) s = .next t ∧
      t = { s with
        attention := ⟨false, false, false, false, false⟩
        liveReads := s.liveReads + 1
        port := (s.port.accept p false [some ⟨d, s.sideFlags⟩]).flush } ∧
      (d[0].getLsbD 0 = s.attention.camera ∧ d[0].getLsbD 1 = s.attention.eval ∧
        d[0].getLsbD 2 = s.attention.screen ∧ d[0].getLsbD 3 = s.attention.snap ∧
        d[0].getLsbD 4 = s.attention.config ∧ d[0].getLsbD 5 = false ∧
        d[0].getLsbD 6 = false ∧ d[0].getLsbD 7 = false) ∧
      ∀ i : Fin 64, i.val ≠ 0 → d[i] = 0) ∧
  (∀ s p a, Claim.PageRead s p a) ∧ Claim.codes

/-! ### RESTART -/

/-- R27, R28, R30, R42, R70, R169: a camera at a RESTART, its settings kept. -/
def Sys2Proof.Claim.cameraRestarted (x x' : Camera) : Prop :=
  let g := x.cfg.geom
  x'.cfg = x.cfg ∧ x'.geom = (if g.valid = true then g else { g with w := 0, h := 0 }) ∧
    x'.chan = .disarmed ∧ x'.slots = List.replicate g.k ⟨.free, 0⟩ ∧ x'.ready = [] ∧
    x'.intake = none ∧ x'.dropRun = false ∧ x'.started = 0 ∧ x'.completed = 0 ∧
    x'.truncated = 0 ∧ x'.dropped = 0 ∧ x'.staleTimer = none ∧ x'.lostTimer = none ∧
    x'.gapTimer = none ∧ x'.stats = ⟨Vector.replicate 48 ⟨0, 0⟩, 0, none⟩ ∧
    Cleared x'.eval ∧ x'.eval.state = .off ∧ x'.eval.mode = .stop ∧ x'.eval.restartCount = 0 ∧
    x'.eval.unfit = 0 ∧ x'.mapCount = 0

/-- R79: a line at a RESTART, its settings and pin level kept: inactive with counts 0; where its raw level is
active a filter run begins, or with filter time 0 it is active at once, its edge counted. -/
def Sys2Proof.Claim.lineRestarted (x x' : Line) (now : Time) : Prop :=
  let raw := x.pin != x.cfg.activeLow
  x' = { x with
    raw := raw
    accepted := raw && x.cfg.filterTime == 0
    filterTimer :=
      if raw = true ∧ x.cfg.filterTime ≠ 0 then some (now + x.cfg.filterTime.setWidth 32) else none
    edges := if raw = true ∧ x.cfg.filterTime = 0 then 1 else 0
    rejected := 0 }

/-- R101 to R103, R121: a screen at a RESTART, its settings kept, and its sync level (log entry 12). -/
def Sys2Proof.Claim.screenRestarted (y y' : Screen) : Prop :=
  let g := y.cfg.geom
  y'.cfg = y.cfg ∧ y'.geom = (if g.valid = true then g else { g with ws := 0, hs := 0 }) ∧
    y'.state = .disabled ∧ Claim.emptyLayouts y'.committed ∧ y'.pendingCommit = none ∧
    y'.active = none ∧ y'.retiring = none ∧ y'.choice = none ∧ y'.lastLine = none ∧
    y'.sync = y.sync ∧ y'.offsetTimer = none ∧ y'.cycleTimer = none ∧ y'.owed = false ∧
    y'.latchCount = 0 ∧ y'.ignoredSyncs = 0 ∧ y'.table = [] ∧ y'.misuse = false ∧
    y'.misuseCount = 0

/-- R79, R147, R148: the engine at a RESTART: DISABLED, nothing kept but trigger copies and owed ARM writes; the
edges of lines with filter time 0 are in its new pending set. -/
def Sys2Proof.Claim.engineRestarted (s : State) (e' : Engine) : Prop :=
  e'.state = .disabled ∧ e'.enable = false ∧ e'.continuation = none ∧ e'.held = [] ∧
    e'.running = none ∧ e'.loaded = none ∧ e'.source = none ∧ e'.copy = none ∧
    e'.coalesced = 0 ∧ e'.copies = s.engine.copies ∧ e'.armOwed = s.engine.armOwed ∧
    ∀ n, e'.isPending n = decide (∃ l, (s.line l).pin ≠ (s.line l).cfg.activeLow ∧
      (s.line l).cfg.filterTime = 0 ∧ (s.engine.copyOf n).hit (.edge l true) = true)

/-- R167: what a performed RESTART does to every block; settings, Timebase, straps, queues, reads in flight and
DRAM are kept, and of the words those of a pending COMMIT alone change, ended REFUSED_STATE under its tag. -/
def Sys2Proof.Claim.Restarted (s t : State) : Prop :=
  (∀ c, Claim.cameraRestarted (s.cam c) (t.cam c)) ∧
    (∀ l, Claim.lineRestarted (s.line l) (t.line l) s.timebase) ∧
    (∀ x, Claim.screenRestarted (s.screen x) (t.screen x)) ∧
    Claim.engineRestarted s t.engine ∧ t.ring = ⟨0, 0, [], 0, false, 0, s.ring.intEnable⟩ ∧
    t.attention = ⟨false, false, false, false, false⟩ ∧
    (∀ x, t.mailbox (.screen x) =
      match (s.screen x).pendingCommit, (s.mailbox (.screen x)).openTag with
      | some _, some g =>
        { s.mailbox (.screen x) with ansTag := g, result := .refusedState, openTag := none }
      | _, _ => s.mailbox (.screen x)) ∧
    (∀ c, t.mailbox (.camera c) = s.mailbox (.camera c)) ∧
    t.mailbox .engine = s.mailbox .engine ∧
    t = { s with
      cams := t.cams
      lines := t.lines
      screens := t.screens
      fetchWait := []
      engine := t.engine
      ring := t.ring
      attention := t.attention
      words := t.words
      port := t.port }

/-- A RESTART that is performed at its request: without the wait flag, or with it while the engine runs nothing;
none is open (R166). -/
def Sys2Proof.Claim.restartNow (s : State) (p : PortTag) (tag ix : Byte) (i : Instr) : Prop :=
  s.quiet ∧ s.words.part.openTag = none ∧
    (ix = 0 ∧ i = .restart p ⟨some tag, some ix⟩ ∨
      ix ≠ 0 ∧ (s.engine.state = .disabled ∨ s.engine.state = .idle) ∧
        i = .restartWaitIdle p ⟨some tag, some ix⟩)

/-- R166, R167: the RESTART is answered DONE and every block takes its values; no read is in flight in a
composition table. -/
def Sys2Proof.Claim.RestartPerformed (s : State) (p : PortTag) (tag ix : Byte) (i : Instr) : Prop :=
  Claim.restartNow s p tag ix i → (∀ x, (s.screen x).table = []) →
    Gives i s fun t =>
      t.words.part = ⟨1, tag, ix, tag, .done, none⟩ ∧ Claim.Restarted s t ∧
        t.port = (s.writeDone p).port

/-- The response of an entry at a RESTART: the macropixels formed, and background for the others, of the entry's
set, or of the working settings while it waits (R121). -/
def Sys2Proof.Claim.restartResponse (y : Screen) (e : Entry) : Beat :=
  match e.state with
  | .waiting => copiesOf y.cfg.background
  | .fetching r plan _ =>
    let bg := ((match r with
      | .active => y.active
      | .retiring => y.retiring).elim y.cfg.background HoldSet.background)
    Vector.ofFn fun i => match plan.getD (i.val / 4) (.colour bg) with
      | .colour m => m.byte (i.val % 4)
      | .source _ (some m) => m.byte (i.val % 4)
      | .source _ none => bg.byte (i.val % 4)

/-- R121: a read in a composition table is answered at the RESTART, with the sideband flags of before or of after
it (the model leaves open which, log entry 17). -/
def Sys2Proof.Claim.RestartAnswersRead (s : State) (p : PortTag) (tag ix : Byte) (i : Instr) (x : ScrId)
    (e : Entry) : Prop :=
  Claim.restartNow s p tag ix i → (s.screen x).table = [e] →
    (∀ y, y ≠ x → (s.screen y).table = []) →
    Gives i s fun t =>
      t.words.part = ⟨1, tag, ix, tag, .done, none⟩ ∧ Claim.Restarted s t ∧
        (t.port = ((s.writeDone p).port.form e.resp
            ⟨Claim.restartResponse (s.screen x) e, s.sideFlags⟩).flush ∨
          t.port = ((s.writeDone p).port.form e.resp
            ⟨Claim.restartResponse (s.screen x) e, t.sideFlags⟩).flush)

/-- R28, R79, R102, R121, R148, R166, R167, R171: a RESTART without the wait flag, or with it while the engine
runs nothing, with none open, is answered DONE and resets every block. That a screen's sync level is kept, since
the input stands as it stood, is the model's choice for R102's "taken from the input" (log entry 12). -/
def Obligations.RestartResetsBlocks : Prop :=
  (∀ s p tag ix i, Claim.RestartPerformed s p tag ix i) ∧
    ∀ s p tag ix i x e, Claim.RestartAnswersRead s p tag ix i x e

/-- A RESTART with the wait flag that finds none open (R166). -/
def Sys2Proof.Claim.restartWaits (s : State) (ix : Byte) : Prop :=
  s.quiet ∧ ix ≠ 0 ∧ s.words.part.openTag = none

/-- The state once the request is answered IN_PROGRESS, open, with the engine given (R148, R166). -/
def Sys2Proof.Claim.restartOpened (s : State) (p : PortTag) (tag ix : Byte) (e' : Engine) : State :=
  { s with
    engine := e'
    words := { s.words with part := ⟨1, tag, ix, tag, .inProgress, some tag⟩ }
    port := (s.writeDone p).port }

/-- The run's loaded copy with last result ABORTED (R142). -/
def Sys2Proof.Claim.abortedCopy (e : Engine) : Option Loaded :=
  e.loaded.map fun d => { d with lastResult := 6 }

/-- R148, R166: in STORING the write-back goes on; in LOADING the run ends when the read returns; in
WAITING_FRAME it enters STORING, with last result ABORTED and no report. -/
def Sys2Proof.Claim.RestartWaits (s : State) (p : PortTag) (tag ix : Byte) : Prop :=
  Claim.restartWaits s ix →
    (s.engine.state = .storing →
      exec (.restartWaitIdle p ⟨some tag, some ix⟩) s =
        .next (Claim.restartOpened s p tag ix s.engine)) ∧
    (s.engine.state = .loading →
      exec (.restartWaitIdle p ⟨some tag, some ix⟩) s =
        .next (Claim.restartOpened s p tag ix { s.engine with ending := .restart })) ∧
    (s.engine.state = .waitingFrame →
      exec (.restartWaitIdle p ⟨some tag, some ix⟩) s =
        .next (Claim.restartOpened s p tag ix
          { s.engine with
            state := .storing
            loaded := Claim.abortedCopy s.engine
            ended := true
            ending := .restart }))

/-- R142, R148: in COPYING no further beat is sent; with nothing in flight the SNAP tag is removed and the run
enters STORING, else it waits for what is in flight. -/
def Sys2Proof.Claim.RestartWaitsCopy (s : State) (p : PortTag) (tag ix : Byte) (k : CopyRun) (c : CamId)
    (j : Nat) : Prop :=
  Claim.restartWaits s ix → s.engine.state = .copying → s.engine.copy = some k →
    s.engine.source = some (c, j) →
    if k.readsBack = k.readsSent ∧ k.writeReady = false then
      Gives (.restartWaitIdle p ⟨some tag, some ix⟩) s fun t =>
        SlotsBecome s t (fun e i q => if e = c ∧ i = j then q.without (1#13 <<< 12) else q) ∧
          t = { Claim.restartOpened s p tag ix
              { s.engine with
                state := .storing
                loaded := Claim.abortedCopy s.engine
                source := none
                copy := none
                ended := true
                ending := .restart } with
            cams := t.cams }
    else
      exec (.restartWaitIdle p ⟨some tag, some ix⟩) s =
        .next (Claim.restartOpened s p tag ix
          { s.engine with loaded := Claim.abortedCopy s.engine, ending := .restart })

/-- R166: while one is open another RESTART, with or without the flag, is answered BUSY and has no effect. -/
def Sys2Proof.Claim.RestartBusy (s : State) (p : PortTag) (tag ix : Byte) (q : Byte) (wait : Bool) : Prop :=
  s.quiet → s.words.part.openTag = some q →
    exec (if wait then .restartWaitIdle p ⟨some tag, some ix⟩ else .restart p ⟨some tag, some ix⟩) s =
      .next { s with
        words := { s.words with part := ⟨1, tag, ix, tag, .busy, some q⟩ }
        port := (s.writeDone p).port }

/-- R142, R148, R166: a RESTART with the wait flag while the engine runs is answered IN_PROGRESS and open, and ends
the run by its state; while one is open another is answered BUSY. -/
def Obligations.RestartWaitsForEngine : Prop :=
  (∀ s p tag ix, Claim.RestartWaits s p tag ix) ∧
  (∀ s p tag ix k c j, Claim.RestartWaitsCopy s p tag ix k c j) ∧
  ∀ s p tag ix q wait, Claim.RestartBusy s p tag ix q wait

/-! ### The Snapshot Engine -/

/-- Selection without a chain continuation: the lowest pending descriptor is loaded while the enable is set; with
none the engine is IDLE, with the enable clear DISABLED (R131, R143). -/
def Sys2Proof.Claim.selects (e e' : Engine) : Prop :=
  if e.enable = true then
    match allDescs.find? e.isPending with
    | none => e' = { e with state := .idle }
    | some n => e' = e.loads n e'.pending ∧ ∀ m, e'.isPending m = (e.isPending m && m != n)
  else e' = { e with state := .disabled }

/-- R131, R143: ENGINE_ENABLE of a DISABLED engine selects at once; of one in another state it sets the enable
alone. -/
def Sys2Proof.Claim.EngineEnabled (s : State) (p : PortTag) (f : ReqFields) : Prop :=
  s.quiet → (s.engine.state = .disabled → s.engine.continuation = none) →
    Gives (.engineEnable p f) s fun t =>
      Answered s t p .engine 1 f .done ∧
        (if s.engine.state = .disabled then
          Claim.selects { s.engine with enable := true } t.engine
        else t.engine = { s.engine with enable := true }) ∧
        t = { s with engine := t.engine, port := t.port, words := t.words }

/-- R143: ENGINE_DISABLE of an IDLE engine makes it DISABLED, and of any other clears the enable alone. -/
def Sys2Proof.Claim.EngineDisabled (s : State) (p : PortTag) (f : ReqFields) : Prop :=
  s.quiet →
    Gives (.engineDisable p f) s fun t =>
      Answered s t p .engine 2 f .done ∧
        t = { s with
          engine :=
            { s.engine with
              state := if s.engine.state = .idle then .disabled else s.engine.state
              enable := false }
          port := t.port
          words := t.words }

/-- R131, R143: ENGINE_ENABLE of a DISABLED engine makes it IDLE, or loads the lowest pending descriptor;
ENGINE_DISABLE of an IDLE one makes it DISABLED; in any other state they set the enable alone. -/
def Obligations.EngineEnableDisable : Prop :=
  (∀ s p f, Claim.EngineEnabled s p f) ∧ ∀ s p f, Claim.EngineDisabled s p f

/-- R127, R131: START(n) with enable clear is answered DISABLED; with enable set and the engine not IDLE it
adds n to the pending set, or raises the coalesced count where n is there; an IDLE engine with nothing else
pending takes n as its running descriptor and enters LOADING. -/
def Obligations.StartByTriggerCopy : Prop :=
  ∀ (s : State) (p : PortTag) (f : ReqFields) (n : DescId), s.quiet →
    (((s.mailbox .engine).take 3 f).index.toNat % 16 = n.val) →
    ((s.engine.copyOf n).enabled = false →
      ∃ t, exec (.start p f) s = .next t ∧ Answered s t p .engine 3 f .disabled ∧
        t = { s with port := t.port, words := t.words }) ∧
    ((s.engine.copyOf n).enabled = true → s.engine.state ≠ .idle →
      ∃ t, exec (.start p f) s = .next t ∧ Answered s t p .engine 3 f .done ∧
        t = { s with
          engine :=
            if s.engine.isPending n then
              { s.engine with coalesced := satInc s.engine.coalesced }
            else { s.engine with pending := s.engine.pending ||| (1#16 <<< n.val) }
          port := t.port
          words := t.words }) ∧
    ((s.engine.copyOf n).enabled = true → s.engine.state = .idle → s.engine.enable = true →
      s.engine.pending = 0 → s.engine.continuation = none →
      ∃ t, exec (.start p f) s = .next t ∧ Answered s t p .engine 3 f .done ∧
        t.engine.state = .loading ∧ t.engine.running = some n ∧ t.engine.pending = 0 ∧
        t = { s with engine := t.engine, port := t.port, words := t.words })

/-- R128: ARM(n) on an enabled descriptor sets the trigger copy's armed field; where n does not run an ARM
write is owed, where it runs with its copy loaded armed is set there. -/
def Obligations.ArmDescriptor : Prop :=
  ∀ (s : State) (p : PortTag) (f : ReqFields) (n : DescId), s.quiet →
    (((s.mailbox .engine).take 4 f).index.toNat % 16 = n.val) →
    ((s.engine.copyOf n).enabled = false →
      ∃ t, exec (.snapshotArm p f) s = .next t ∧ Answered s t p .engine 4 f .disabled ∧
        t = { s with port := t.port, words := t.words }) ∧
    ((s.engine.copyOf n).enabled = true →
      (s.engine.running = some n → s.engine.loaded.isSome = true) →
      ∃ t, exec (.snapshotArm p f) s = .next t ∧ Answered s t p .engine 4 f .done ∧
        (t.engine.copyOf n).isArmed = true ∧
        (∀ m, m ≠ n → t.engine.copyOf m = s.engine.copyOf m) ∧
        (s.engine.running ≠ some n → t.engine.loaded = s.engine.loaded ∧
          ∀ m : DescId, t.engine.armOwed.getLsbD m.val =
            (s.engine.armOwed.getLsbD m.val || m == n)) ∧
        (s.engine.running = some n → t.engine.armOwed = s.engine.armOwed ∧
          ∀ d, s.engine.loaded = some d → t.engine.loaded = some { d with armed := true }) ∧
        t = { s with
          engine :=
            { s.engine with
              copies := t.engine.copies
              armOwed := t.engine.armOwed
              loaded := t.engine.loaded }
          port := t.port
          words := t.words })

/-- R142, R144: ABORT is refused in DISABLED and IDLE. -/
def Sys2Proof.Claim.AbortRefused (s : State) (p : PortTag) (f : ReqFields) : Prop :=
  s.quiet → (s.engine.state = .disabled ∨ s.engine.state = .idle) →
    Gives (.abort p f) s fun t =>
      Answered s t p .engine 5 f .refusedState ∧ t = { s with port := t.port, words := t.words }

/-- A run in the state given that is not ending already, with no RESTART open (R142, R166). -/
def Sys2Proof.Claim.running (s : State) (st : EngState) : Prop :=
  s.quiet ∧ s.engine.state = st ∧ s.engine.ending = .none ∧ s.words.part.openTag = none

/-- R142: in LOADING the run is left to end when the read returns; in STORING the chain is cut short. -/
def Sys2Proof.Claim.AbortMarks (s : State) (p : PortTag) (f : ReqFields) (storing : Bool) : Prop :=
  Claim.running s (if storing then .storing else .loading) →
    Gives (.abort p f) s fun t =>
      Answered s t p .engine 5 f .done ∧
        t = { s with
          engine :=
            if storing then { s.engine with cut := true } else { s.engine with ending := .abort }
          port := t.port
          words := t.words }

/-- R141, R142: in WAITING_FRAME the run enters STORING, ABORTED, with its SNAP_ENDED. -/
def Sys2Proof.Claim.AbortWaiting (s : State) (p : PortTag) (f : ReqFields) (n : DescId) (d : Loaded) : Prop :=
  Claim.running s .waitingFrame → s.engine.running = some n → s.engine.loaded = some d →
    Gives (.abort p f) s fun t =>
      Answered s t p .engine 5 f .done ∧
        t.engine =
          { s.engine with
            state := .storing
            loaded := some { d with lastResult := 6 }
            ending := .abort
            ended := true } ∧
        Reported s t .snapEnded n.val (detail 6 d.camera d.remaining.toNat) d.lastSeq ∧
        t = { s with
          engine := t.engine
          ring := t.ring
          attention := t.attention
          words := t.words
          port := t.port
          arb := t.arb }

/-- R141, R142: in COPYING no further beat is sent; with nothing in flight the SNAP tag is removed and the run
enters STORING with its SNAP_ENDED, else it waits for what is in flight. -/
def Sys2Proof.Claim.AbortCopy (s : State) (p : PortTag) (f : ReqFields) (n : DescId) (d : Loaded)
    (k : CopyRun) (c : CamId) (j : Nat) : Prop :=
  Claim.running s .copying → s.engine.running = some n → s.engine.loaded = some d →
    s.engine.copy = some k → s.engine.source = some (c, j) →
    Gives (.abort p f) s fun t =>
      Answered s t p .engine 5 f .done ∧
        (if k.readsBack = k.readsSent ∧ k.writeReady = false then
          t.engine =
              { s.engine with
                state := .storing
                loaded := some { d with lastResult := 6 }
                source := none
                copy := none
                ending := .abort
                ended := true } ∧
            SlotsBecome s t (fun e i q => if e = c ∧ i = j then q.without (1#13 <<< 12) else q) ∧
            Reported s t .snapEnded n.val (detail 6 d.camera d.remaining.toNat) d.lastSeq
        else
          t.engine =
              { s.engine with loaded := some { d with lastResult := 6 }, ending := .abort } ∧
            t.cams = s.cams ∧ NoReport s t) ∧
        t = { s with
          cams := t.cams
          engine := t.engine
          ring := t.ring
          attention := t.attention
          words := t.words
          port := t.port
          arb := t.arb }

/-- R142, R166: ABORT of a run that is ending already, or while a RESTART waits, changes nothing further. -/
def Sys2Proof.Claim.AbortAgain (s : State) (p : PortTag) (f : ReqFields) : Prop :=
  s.quiet → s.engine.state ≠ .disabled → s.engine.state ≠ .idle →
    (s.engine.ending ≠ .none ∨ s.words.part.openTag.isSome = true) →
    Gives (.abort p f) s fun t =>
      Answered s t p .engine 5 f .done ∧ t = { s with port := t.port, words := t.words }

/-- R141, R142, R144, R166: ABORT in every engine state. -/
def Obligations.AbortByState : Prop :=
  (∀ s p f, Claim.AbortRefused s p f) ∧ (∀ s p f storing, Claim.AbortMarks s p f storing) ∧
  (∀ s p f n d, Claim.AbortWaiting s p f n d) ∧ (∀ s p f n d k c j, Claim.AbortCopy s p f n d k c j) ∧
  ∀ s p f, Claim.AbortAgain s p f

/-- R132, R128, R179: the descriptor load of the running descriptor is handed to the DESC queue at its record
when no ARM write of it is owed; an owed ARM write goes as a write of byte 01h alone. -/
def Obligations.LoadAndArmWriteHanded : Prop :=
  ∀ (s : State) (n : DescId), s.quiet → s.room .desc = true →
    (s.engine.state = .loading → s.engine.running = some n → s.engine.loadHanded = false →
      s.engine.armOwed.getLsbD n.val = false →
      ∃ t, exec .descriptorLoad s = .next t ∧
        HandedTo s t .desc (s.controlBase + 0x4000 + n.val * 64) (.read (.load s.engine.run)) ∧
        t = { s with engine := { s.engine with loadHanded := true }, arb := t.arb }) ∧
    (s.engine.armOwed.getLsbD n.val = true →
      (∀ m : DescId, m < n → s.engine.armOwed.getLsbD m.val = false) →
      ∃ t d, exec .armWrite s = .next t ∧
        HandedTo s t .desc (s.controlBase + 0x4000 + n.val * 64) (.write d 2) ∧
        d[1] = 1 ∧
        (∀ m : DescId, t.engine.armOwed.getLsbD m.val =
          (s.engine.armOwed.getLsbD m.val && m != n)) ∧
        t = { s with
          engine := { s.engine with armOwed := t.engine.armOwed }
          arb := t.arb })

/-- The descriptor read of the run returns with the bytes `d`, as the loaded copy `x`: armed too where ARM(n) was
taken while the load was out (R128, R132, R145). -/
def Sys2Proof.Claim.loads (s : State) (d : Beat) (a : Nat) (rest : List DramRead) (n : DescId)
    (x : Loaded) : Prop :=
  s.quiet ∧ s.reads = ⟨.load s.engine.run, a, d⟩ :: rest ∧ s.engine.state = .loading ∧
    s.engine.loadHanded = true ∧ s.engine.running = some n ∧
    x = if s.engine.armLate then { loadedOf d with armed := true } else loadedOf d

/-- The copy of a run from slot `j`: the whole frame, or the crop rectangle made even and clamped to the frame,
into the next place of the destination (R123, R124, R135). -/
def Sys2Proof.Claim.copyFor (x : Loaded) (g : CamGeom) (j : Nat) : CopyRun :=
  let crop := x.mode = .crop
  let x0 := if crop then min (x.cropX.toNat / 2 * 2) (g.w - 2) else 0
  let y0 := if crop then min x.cropY.toNat (g.h - 1) else 0
  let w := if crop then min (max 2 (x.cropW.toNat / 2 * 2)) (g.w - x0) else g.w
  let h := if crop then min (max 1 x.cropH.toNat) (g.h - y0) else g.h
  { slotAddr := g.slotBase + j * g.stride, frameW := g.w, x := x0, y := y0, w := w, h := h
    placeAddr := x.destBase +
      x.nextPlace.toNat % max 1 (min 64 x.places.toNat) * ((w * h * 2 + 63) / 64 * 64)
    readsSent := 0, readsBack := 0, buffer := [], written := 0 }

/-- The destination range of a run: the places in use from the destination base, each the rectangle's bytes rounded
up to a multiple of 64 (R124). -/
def Sys2Proof.Claim.destination (x : Loaded) (g : CamGeom) : Claim.Span :=
  let k := Claim.copyFor x g 0
  (x.destBase, max 1 (min 64 x.places.toNat) * ((k.w * k.h * 2 + 63) / 64 * 64))

/-- A range that check 3 of R133 refuses: it meets an armed camera's intake window or slot area, the slot area of a
DISARMED camera one of whose slots is held, an enabled screen's window or the control area, or passes the highest
address. -/
def Sys2Proof.Claim.destClashes (s : State) (r : Claim.Span) : Prop :=
  (∃ e, Claim.meetsArmed s r e) ∨ (∃ e, Claim.meetsHeld s r e) ∨ (∃ x, Claim.meetsShown s r x) ∨
    Claim.share r (Claim.control s) ∨ 2 ^ 40 < r.1 + r.2

/-- R133: `r` is the result of the first check that fails after the enable check, none where all pass. -/
def Sys2Proof.Claim.checkFails (s : State) (x : Loaded) (r : Option Byte) : Prop :=
  if x.remaining = 0 then r = some 2
  else match x.cam with
    | none => r = some 4
    | some c =>
      let bad := (s.cam c).chan ≠ .disarmed ∧ Claim.destClashes s (Claim.destination x (s.cam c).geom)
      let noFrame := (s.cam c).chan = .disarmed ∨ (s.cam c).chan = .lost ∨ (s.cam c).ready = []
      bad ∧ r = some 3 ∨ ¬bad ∧ noFrame ∧ r = some 4 ∨ ¬bad ∧ ¬noFrame ∧ r = none

/-- R133, R140: with enable clear the run ends with no write-back and no report, and the chain ends. The held
list is empty. -/
def Sys2Proof.Claim.LoadDisabled (s : State) (d : Beat) (a : Nat) (rest : List DramRead) (n : DescId)
    (x : Loaded) : Prop :=
  Claim.loads s d a rest n x → s.engine.ending = .none → x.enable = false → s.engine.held = [] →
    Gives .descriptorLoadReturn s fun t =>
      Claim.selects { s.engine with running := none, loaded := none, continuation := none }
          t.engine ∧
        t = { s with engine := t.engine, reads := rest }

/-- R133, R141: a check that fails ends the run in STORING: its result is the last result, the rest of the copy
stays as loaded, and SNAP_ENDED is written. -/
def Sys2Proof.Claim.LoadFails (s : State) (d : Beat) (a : Nat) (rest : List DramRead) (n : DescId)
    (x : Loaded) (r : Byte) : Prop :=
  Claim.loads s d a rest n x → s.engine.ending = .none → x.enable = true →
    Claim.checkFails s x (some r) →
    Gives .descriptorLoadReturn s fun t =>
      t.engine =
          { s.engine with
            loaded := some { x with lastResult := r }
            state := .storing
            ended := true } ∧
        Reported s t .snapEnded n.val (detail r.toNat x.camera x.remaining.toNat) x.lastSeq ∧
        t = { s with
          engine := t.engine
          reads := rest
          ring := t.ring
          attention := t.attention
          arb := t.arb }

/-- R133: with every check passed the newest READY slot is held with the SNAP tag and copying begins. -/
def Sys2Proof.Claim.LoadPasses (s : State) (d : Beat) (a : Nat) (rest : List DramRead) (n : DescId)
    (x : Loaded) (c : CamId) (j : Nat) : Prop :=
  Claim.loads s d a rest n x → s.engine.ending = .none → x.enable = true →
    Claim.checkFails s x none → x.cam = some c → (s.cam c).ready.getLast? = some j →
    Gives .descriptorLoadReturn s fun t =>
      t.engine =
          { s.engine with
            state := .copying
            loaded := some x
            source := some (c, j)
            copy := some (Claim.copyFor x (s.cam c).geom j) } ∧
        SlotsBecome s t (fun e i q => if e = c ∧ i = j then q.withTags (1#13 <<< 12) else q) ∧
        t = { s with engine := t.engine, cams := t.cams, reads := rest }

/-- R142, R148: a run that was aborted while its load was out goes to STORING unchecked, with its SNAP_ENDED,
which a RESTART that waits leaves out. -/
def Sys2Proof.Claim.LoadEnding (s : State) (d : Beat) (a : Nat) (rest : List DramRead) (n : DescId)
    (x : Loaded) : Prop :=
  Claim.loads s d a rest n x → s.engine.ending ≠ .none →
    Gives .descriptorLoadReturn s fun t =>
      t.engine =
          { s.engine with
            loaded := some { x with lastResult := 6 }
            state := .storing
            ended := true } ∧
        (if s.words.part.openTag.isSome = true then NoReport s t
          else Reported s t .snapEnded n.val (detail 6 x.camera x.remaining.toNat) x.lastSeq) ∧
        t = { s with
          engine := t.engine
          reads := rest
          ring := t.ring
          attention := t.attention
          arb := t.arb }

/-- R148: the read of a run that a RESTART abandoned is discarded. -/
def Sys2Proof.Claim.LoadAbandoned (s : State) (d : Beat) (a : Nat) (rest : List DramRead) (run : Nat) : Prop :=
  s.quiet → s.reads = ⟨.load run, a, d⟩ :: rest → run ≠ s.engine.run →
    exec .descriptorLoadReturn s = .next { s with reads := rest }

/-- R123, R124, R133, R141, R142, R148: a load that returns is checked in the order of R133: enable, SPENT,
BAD_DEST, NO_FRAME; with every check passed the newest READY slot is held and copying begins. A run that is ending
is not checked. -/
def Obligations.LoadReturnChecked : Prop :=
  (∀ s d a rest n x, Claim.LoadDisabled s d a rest n x) ∧
  (∀ s d a rest n x r, Claim.LoadFails s d a rest n x r) ∧
  (∀ s d a rest n x c j, Claim.LoadPasses s d a rest n x c j) ∧
  (∀ s d a rest n x, Claim.LoadEnding s d a rest n x) ∧
  ∀ s d a rest run, Claim.LoadAbandoned s d a rest run

/-- COPYING, with the copy's progress `k`, and nothing held back (R134). -/
def Sys2Proof.Claim.copying (s : State) (k : CopyRun) : Prop :=
  s.quiet ∧ s.engine.state = .copying ∧ s.engine.copy = some k

/-- The first of the beats of a frame line that hold a line of the rectangle, which starts at byte 2 x of the frame
line and is 2 w bytes long (R135). -/
def Sys2Proof.Claim.firstBeat (k : CopyRun) : Nat := 2 * k.x / 64

/-- How many beats hold a line of the rectangle, the last among them that of byte 2 x + 2 w - 1 (R135). -/
def Sys2Proof.Claim.beatsInLine (k : CopyRun) : Nat :=
  (2 * k.x + 2 * k.w - 1) / 64 - Claim.firstBeat k + 1

/-- The address of source beat `i` of a copy, counted line by line: in the held slot, on the frame line of that
line of the rectangle (R134, R135). -/
def Sys2Proof.Claim.sourceBeat (k : CopyRun) (i : Nat) : Nat :=
  k.slotAddr + (k.y + i / Claim.beatsInLine k) * (2 * k.frameW) +
    (Claim.firstBeat k + i % Claim.beatsInLine k) * 64

/-- The bytes of source beat `i` that belong to the rectangle: those of the frame line's bytes 2 x to
2 x + 2 w - 1, in order (R135). -/
def Sys2Proof.Claim.sourceBytes (k : CopyRun) (i : Nat) (d : Beat) : List Byte :=
  let start := (Claim.firstBeat k + i % Claim.beatsInLine k) * 64
  let first := 2 * k.x - start
  (d.toList.drop first).take (min 64 (2 * k.x + 2 * k.w - start) - first)

/-- The size of the place: the rectangle's lines, packed (R124). -/
def Sys2Proof.Claim.placeSize (k : CopyRun) : Nat := k.w * k.h * 2

/-- R134, R135: the next source read goes to the COPY queue at its address in the held slot. -/
def Sys2Proof.Claim.CopyReadSent (s : State) (k : CopyRun) : Prop :=
  Claim.copying s k → s.engine.ending = .none → s.room .copy = true →
    k.readsSent < Claim.beatsInLine k * k.h →
    Gives .copyRead s fun t =>
      HandedTo s t .copy (Claim.sourceBeat k k.readsSent) (.read (.copy s.engine.run)) ∧
        t = { s with
          engine := { s.engine with copy := some { k with readsSent := k.readsSent + 1 } }
          arb := t.arb }

/-- R134, R135: a read that returns brings the bytes of the rectangle. -/
def Sys2Proof.Claim.CopyReadBack (s : State) (k : CopyRun) (a : Nat) (d : Beat) (rest : List DramRead) : Prop :=
  Claim.copying s k → s.engine.ending = .none → s.reads = ⟨.copy s.engine.run, a, d⟩ :: rest →
    exec .copyReadReturn s = .next
      { s with
        reads := rest
        engine :=
          { s.engine with
            copy := some
              { k with
                buffer := k.buffer ++ Claim.sourceBytes k k.readsBack d
                readsBack := k.readsBack + 1 } } }

/-- R134, R135: a destination write that is ready and not the last goes with the next 64 bytes. -/
def Sys2Proof.Claim.CopyWriteSent (s : State) (k : CopyRun) : Prop :=
  Claim.copying s k → s.engine.ending = .none → s.room .copy = true →
    k.written + 1 < (Claim.placeSize k + 63) / 64 → 64 ≤ k.buffer.length →
    64 ≤ Claim.placeSize k - k.written * 64 →
    Gives .copyWrite s fun t =>
      HandedTo s t .copy (k.placeAddr + k.written * 64)
          (.write (Vector.ofFn fun i => k.buffer.getD i.val 0) (BitVec.allOnes 64)) ∧
        t = { s with
          engine :=
            { s.engine with
              copy := some { k with buffer := k.buffer.drop 64, written := k.written + 1 } }
          arb := t.arb }

/-- R142: the last read in flight of an aborted copy returns and leaves no write to send: the SNAP tag is removed
and the run enters STORING with its SNAP_ENDED. -/
def Sys2Proof.Claim.AbortedCopyEnds (s : State) (k : CopyRun) (a : Nat) (d : Beat) (rest : List DramRead)
    (n : DescId) (x : Loaded) (c : CamId) (j : Nat) : Prop :=
  Claim.copying s k → s.engine.ending = .abort → s.words.part.openTag = none →
    s.reads = ⟨.copy s.engine.run, a, d⟩ :: rest → k.readsBack + 1 = k.readsSent →
    k.buffer.length + (Claim.sourceBytes k k.readsBack d).length <
      min 64 (Claim.placeSize k - k.written * 64) →
    s.engine.running = some n → s.engine.loaded = some x → s.engine.source = some (c, j) →
    Gives .copyReadReturn s fun t =>
      t.engine =
          { s.engine with
            state := .storing
            loaded := some { x with lastResult := 6 }
            source := none
            copy := none
            ended := true } ∧
        SlotsBecome s t (fun e i q => if e = c ∧ i = j then q.without (1#13 <<< 12) else q) ∧
        Reported s t .snapEnded n.val (detail 6 x.camera x.remaining.toNat) x.lastSeq ∧
        t = { s with
          cams := t.cams
          engine := t.engine
          reads := rest
          ring := t.ring
          attention := t.attention
          arb := t.arb }

/-- R148: a source read of a run that a RESTART abandoned is discarded. -/
def Sys2Proof.Claim.CopyReadAbandoned (s : State) (a : Nat) (d : Beat) (rest : List DramRead) (run : Nat) :
    Prop :=
  s.quiet → s.reads = ⟨.copy run, a, d⟩ :: rest → run ≠ s.engine.run →
    exec .copyReadReturn s = .next { s with reads := rest }

/-- R134, R135, R142, R148: the beats of a copy in COPYING: source reads, their returns, destination writes, and the
end of an aborted copy when its last read has returned. -/
def Obligations.CopyReadsAndWritesHanded : Prop :=
  (∀ s k, Claim.CopyReadSent s k) ∧ (∀ s k a d rest, Claim.CopyReadBack s k a d rest) ∧
  (∀ s k, Claim.CopyWriteSent s k) ∧
  (∀ s k a d rest n x c j, Claim.AbortedCopyEnds s k a d rest n x c j) ∧
  ∀ s a d rest run, Claim.CopyReadAbandoned s a d rest run

/-- The last destination write of the copy `k` can be sent: `b` bytes of the place are left (R134, R135). -/
def Sys2Proof.Claim.lastWrite (s : State) (k : CopyRun) (b : Nat) (d : Loaded) (c : CamId) (j : Nat)
    (q : BitVec 32) (now : Time) (h : BitVec 13) : Prop :=
  Claim.copying s k ∧ s.engine.ending = .none ∧ s.room .copy = true ∧
    k.written + 1 = (Claim.placeSize k + 63) / 64 ∧ b = min 64 (Claim.placeSize k - k.written * 64) ∧
    b ≤ k.buffer.length ∧
    s.engine.loaded = some d ∧ s.engine.source = some (c, j) ∧
    (s.cam c).slots[j]? = some ⟨.ready q now, h⟩

/-- The last destination beat: the bytes left at the end of the place, enabled alone (R135). -/
def Sys2Proof.Claim.lastBeat (k : CopyRun) (b : Nat) : MemOp :=
  .write (Vector.ofFn fun i => if i.val < b then k.buffer.getD i.val 0 else 0)
    (BitVec.ofNat 64 (2 ^ b - 1))

/-- The loaded copy after a copy has ended: remaining down, next place on within the places, completions up, the
last frame sequence, last result COPIED (R134). -/
def Sys2Proof.Claim.copied (d : Loaded) (q : BitVec 32) : Loaded :=
  { d with
    remaining := d.remaining - 1
    nextPlace := BitVec.ofNat 16 ((d.nextPlace.toNat + 1) % max 1 (min 64 d.places.toNat))
    completions := d.completions + 1
    lastSeq := q
    lastResult := 1 }

/-- R134, R136: the last write ends the copy of a FRAME or CROP run, or of a BURST with remaining 1, in STORING; a
BURST with copies remaining waits for the next frame of its WAITING or LIVE camera. -/
def Sys2Proof.Claim.CopyEnds (s : State) (k : CopyRun) (b : Nat) (d : Loaded) (c : CamId) (j : Nat)
    (q : BitVec 32) (now : Time) (h : BitVec 13) : Prop :=
  Claim.lastWrite s k b d c j q now h →
    (d.mode ≠ .burst ∨ d.remaining = 1 ∨
      d.camera = c.val ∧ ((s.cam c).chan = .waiting ∨ (s.cam c).chan = .live)) →
    Gives .copyWrite s fun t =>
      HandedTo s t .copy (k.placeAddr + k.written * 64) (Claim.lastBeat k b) ∧
        t.engine =
          { s.engine with
            state := if d.mode ≠ .burst ∨ d.remaining = 1 then .storing else .waitingFrame
            copied := true
            source := none
            copy := none
            loaded := some (Claim.copied d q) } ∧
        (t.cam c).slots = (s.cam c).slots.set j ⟨.ready q now, h &&& ~~~(1#13 <<< 12)⟩ ∧
        t.cam c = { s.cam c with slots := (t.cam c).slots } ∧ OthersKept s t c ∧
        t = { s with engine := t.engine, cams := t.cams, arb := t.arb }

/-- R136, R141: a BURST whose camera is no longer WAITING or LIVE ends STALE with its SNAP_ENDED. -/
def Sys2Proof.Claim.CopyEndsStale (s : State) (k : CopyRun) (b : Nat) (d : Loaded) (c : CamId) (j : Nat)
    (q : BitVec 32) (now : Time) (h : BitVec 13) (n : DescId) : Prop :=
  Claim.lastWrite s k b d c j q now h → d.mode = .burst → d.remaining ≠ 1 → d.camera = c.val →
    (s.cam c).chan ≠ .waiting → (s.cam c).chan ≠ .live → s.engine.running = some n →
    Gives .copyWrite s fun t =>
      let v := s.hand .copy (k.placeAddr + k.written * 64) (Claim.lastBeat k b)
      t.engine =
          { s.engine with
            state := .storing
            copied := true
            ended := true
            source := none
            copy := none
            loaded := some { Claim.copied d q with lastResult := 5 } } ∧
        Reported v t .snapEnded n.val (detail 5 d.camera (d.remaining - 1).toNat) q ∧
        (t.cam c).slots = (s.cam c).slots.set j ⟨.ready q now, h &&& ~~~(1#13 <<< 12)⟩ ∧
        t.cam c = { s.cam c with slots := (t.cam c).slots } ∧ OthersKept s t c ∧
        t = { s with
          engine := t.engine
          cams := t.cams
          ring := t.ring
          attention := t.attention
          arb := t.arb }

/-- R134, R135, R136: the last destination write of a copy goes to the end of the place with the bytes left, and
ends the copy: remaining falls, next place moves on, completions rise, the SNAP tag is gone; the run is in STORING,
or, a BURST with copies remaining, waits for the next frame or ends STALE. -/
def Obligations.LastCopyWriteEndsCopy : Prop :=
  (∀ s k b d c j q now h, Claim.CopyEnds s k b d c j q now h) ∧
  ∀ s k b d c j q now h n, Claim.CopyEndsStale s k b d c j q now h n

/-- A run in STORING can hand its write-back (R137). -/
def Sys2Proof.Claim.stores (s : State) (n : DescId) (d : Loaded) : Prop :=
  s.quiet ∧ s.engine.state = .storing ∧ s.room .desc = true ∧ s.engine.running = some n ∧
    s.engine.loaded = some d

/-- R138: the loaded copy with its outcome, of a run that copied and was not ended early. -/
def Sys2Proof.Claim.outcome (e : Engine) (d : Loaded) : Loaded :=
  if e.copied = true ∧ e.ending = .none ∧ d.remaining = 0 then
    if d.notify = true then { d with armed := false } else { d with enable := false }
  else d

/-- R140: the held completion list after the write-back of descriptor `n`. -/
def Sys2Proof.Claim.heldNow (e : Engine) (n : DescId) (d : Loaded) : List HeldDone :=
  if e.copied = true ∧ e.ending = .none ∧ d.remaining = 0 ∧ d.notify = true then
    if e.held.any (fun x => x.desc == n) then
      e.held.map fun x =>
        if x.desc = n then ⟨n, min 255 (x.finishes + 1), d.camera, d.lastSeq, d.nextPlace⟩ else x
    else e.held ++ [⟨n, 1, d.camera, d.lastSeq, d.nextPlace⟩]
  else e.held

/-- The write-back beat: enable, armed, remaining, next place, last result, last frame sequence and completions at
their places of 11.3; the bytes it does not enable are 0. -/
def Sys2Proof.Claim.writeBackBeat (d : Loaded) : Beat :=
  Vector.ofFn fun i => match i.val with
    | 0x00 => BitVec.ofNat 8 d.enable.toNat
    | 0x01 => BitVec.ofNat 8 d.armed.toNat
    | 0x10 => d.remaining.extractLsb' 0 8
    | 0x11 => d.remaining.extractLsb' 8 8
    | 0x14 => d.nextPlace.extractLsb' 0 8
    | 0x15 => d.nextPlace.extractLsb' 8 8
    | 0x20 => d.lastResult
    | 0x24 => d.lastSeq.extractLsb' 0 8
    | 0x25 => d.lastSeq.extractLsb' 8 8
    | 0x26 => d.lastSeq.extractLsb' 16 8
    | 0x27 => d.lastSeq.extractLsb' 24 8
    | 0x28 => d.completions.extractLsb' 0 8
    | 0x29 => d.completions.extractLsb' 8 8
    | _ => 0

/-- The state once the write-back is handed: the beat in the DESC queue with the enables of R179, the trigger copy
with the enable, armed and remaining written, no run, the held list of R140 (R125, R137). -/
def Sys2Proof.Claim.writtenBack (s : State) (n : DescId) (d : Loaded) : State :=
  let d' := Claim.outcome s.engine d
  let u := s.hand .desc (s.controlBase + 0x4000 + n.val * 64)
    (.write (Claim.writeBackBeat d') 0x3F100330003)
  { u with
    engine :=
      { s.engine with
        copies := s.engine.copies.set n
          { s.engine.copyOf n with
            enable := BitVec.ofNat 8 d'.enable.toNat
            armed := BitVec.ofNat 8 d'.armed.toNat
            remaining := d'.remaining }
        held := Claim.heldNow s.engine n d
        running := none
        loaded := none } }

/-- The end of a chain: one SNAP_DONE for each entry of the held list, in order, then selection (R131, R140). -/
def Sys2Proof.Claim.chainEnds (u t : State) : Prop :=
  let r := u.engine.held.foldl (fun v x =>
    v.report .snapDone x.desc.val (detail x.finishes x.camera x.nextPlace.toNat) x.lastSeq) u
  t.ring = r.ring ∧ t.attention = r.attention ∧ t.arb = r.arb ∧
    Claim.selects { u.engine with held := [], continuation := none } t.engine ∧
    t = { u with engine := t.engine, ring := t.ring, attention := t.attention, arb := t.arb }

/-- The run goes on to its link: it copied, wrote no SNAP_ENDED, was not aborted, and has link enable set (R139,
R142). An ABORT in STORING has set `cut` (log entry 23). -/
def Sys2Proof.Claim.linked (e : Engine) (d : Loaded) : Prop :=
  e.copied = true ∧ e.ended = false ∧ e.cut = false ∧ e.ending = .none ∧ d.link = true

/-- R137, R138, R140, R142: the write-back of a run that is not followed by its link ends the chain. For a run
aborted in STORING that the outcome of R138 is applied and no SNAP_ENDED is written is the model's reading of R142,
log entry 23. -/
def Sys2Proof.Claim.StoreEndsChain (s : State) (n : DescId) (d : Loaded) : Prop :=
  Claim.stores s n d → s.words.part.openTag = none → ¬Claim.linked s.engine d →
    Gives .descriptorWriteBack s fun t => Claim.chainEnds (Claim.writtenBack s n d) t

/-- R139: a link to a descriptor that is enabled and not spent is followed: the target is loaded. -/
def Sys2Proof.Claim.StoreFollowsLink (s : State) (n : DescId) (d : Loaded) : Prop :=
  Claim.stores s n d → s.words.part.openTag = none → Claim.linked s.engine d →
    let u := Claim.writtenBack s n d
    (u.engine.copyOf d.target).enabled = true → (u.engine.copyOf d.target).remaining ≠ 0 →
    exec .descriptorWriteBack s = .next
      { u with engine := u.engine.loads d.target s.engine.pending }

/-- R139, R140, R141: a link to a disabled or spent descriptor is refused with a SNAP_ENDED for the target, and the
chain ends. -/
def Sys2Proof.Claim.StoreRefusesLink (s : State) (n : DescId) (d : Loaded) : Prop :=
  Claim.stores s n d → s.words.part.openTag = none → Claim.linked s.engine d →
    let u := Claim.writtenBack s n d
    let w := u.engine.copyOf d.target
    (w.enabled = false ∨ w.remaining = 0) →
    Gives .descriptorWriteBack s fun t =>
      Claim.chainEnds (u.report .snapEnded d.target.val
        (detail (if w.enabled = false then 7 else 2) (w.camera.toNat % 8) w.remaining.toNat) 0) t

/-- R148, R166: at the write-back a RESTART that waits is performed in place of the chain's end and selection, and
answered DONE under its tag. No read is in flight in a composition table. -/
def Sys2Proof.Claim.StorePerformsRestart (s : State) (n : DescId) (d : Loaded) (g : Byte) : Prop :=
  Claim.stores s n d → s.words.part.openTag = some g → (∀ x, (s.screen x).table = []) →
    Gives .descriptorWriteBack s fun t =>
      Claim.Restarted (Claim.writtenBack s n d) t ∧
        t.words.part = { s.words.part with ansTag := g, result := .done, openTag := none } ∧
        t.port = s.port

/-- R125, R131, R137 to R142, R148, R179: the write-back of a run: the beat to its record, the trigger copy, the
outcome and the held list, and then the end of the chain with its reports, the link followed or refused, or a
RESTART that waits performed. A run aborted in STORING keeps its outcome, writes no SNAP_ENDED and ends its chain:
the model's reading of R142 and R138, log entry 23. -/
def Obligations.WriteBackEndsChain : Prop :=
  (∀ s n d, Claim.StoreEndsChain s n d) ∧ (∀ s n d, Claim.StoreFollowsLink s n d) ∧
  (∀ s n d, Claim.StoreRefusesLink s n d) ∧ ∀ s n d g, Claim.StorePerformsRestart s n d g

/-! ### The memory path -/

/-- What a beat handed to the PASS queue is there (R158, R161). -/
def Sys2Proof.Claim.passed (s : State) (p : PortTag) : BeatOp → MemOp
  | .read => .read (.pass (s.port.place p))
  | .write d en => .write d en

/-- The upstream port after a beat handed to the PASS queue: a read waits for its bytes, a write is done
(R149). -/
def Sys2Proof.Claim.passedPort (s : State) (p : PortTag) : BeatOp → Port
  | .read => s.port.accept p false [none]
  | .write _ _ => (s.writeDone p).port

/-- R151, R158: a beat of class PLAIN or RING, and a read of class CONFIG or DESCRIPTOR, goes to the PASS queue
unchanged. -/
def Sys2Proof.Claim.PlainPassed (s : State) (p : PortTag) (a : Addr) (op : BeatOp) : Prop :=
  s.quiet → s.room .pass = true →
    (s.classify (beatBase a) = .plain ∨ s.classify (beatBase a) = .ring ∨
      op = .read ∧ (s.classify (beatBase a) = .config ∨ s.classify (beatBase a) = .descriptor)) →
    Gives (.plainBeat p a op) s fun t =>
      HandedTo s t .pass (beatBase a) (Claim.passed s p op) ∧
        t = { s with port := Claim.passedPort s p op, arb := t.arb }

/-- What a command presents at the upstream port: a beat, a request word (its code as 11.6 gives it), or the
consumer index; nothing where it is no command of the port. -/
def Sys2Proof.Claim.itemOf : Instr → Option UpItem
  | .intakeWriteBeat p a d en | .screenWriteBeat p a d en | .configWrite p a d en
  | .descriptorWrite p a d en | .liveWriteAbsorbed p a d en => some (.beat p a (.write d en))
  | .intakeReadBeat p a | .screenReadBeat p a | .attentionSummaryRead p a =>
    some (.beat p a .read)
  | .intakeOffBeat p a op | .screenOffBeat p a op | .plainBeat p a op => some (.beat p a op)
  | .consumerIndexWrite p v => some (.consumer p v)
  | .unknownCode p o code f => some (.request p o code f)
  | .restart p f | .restartWaitIdle p f => some (.request p .part 1 f)
  | .arm p c f => some (.request p (.camera c) 1 f)
  | .disarm p c f => some (.request p (.camera c) 2 f)
  | .skip p c f => some (.request p (.camera c) 3 f)
  | .reset p c f => some (.request p (.camera c) 4 f)
  | .evalRun p c f => some (.request p (.camera c) 5 f)
  | .evalPause p c f => some (.request p (.camera c) 6 f)
  | .evalStop p c f => some (.request p (.camera c) 7 f)
  | .relearn p c f => some (.request p (.camera c) 8 f)
  | .enable p x f => some (.request p (.screen x) 1 f)
  | .disable p x f => some (.request p (.screen x) 2 f)
  | .commit p x f => some (.request p (.screen x) 3 f)
  | .engineEnable p f => some (.request p .engine 1 f)
  | .engineDisable p f => some (.request p .engine 2 f)
  | .start p f => some (.request p .engine 3 f)
  | .snapshotArm p f => some (.request p .engine 4 f)
  | .abort p f => some (.request p .engine 5 f)
  | _ => none

/-- Whether the intake write beat at index `b` is stored into a slot, and so needs a place in the INTAKE
queue (R8 to R12): with a frame in a slot, a beat of that frame; at beat 0, where a slot can be taken. -/
def Sys2Proof.Claim.needsIntake (x : Camera) (b : Nat) : Prop :=
  b < x.geom.frameBeats ∧
    ((b ≠ 0 ∧ ∃ r j, x.intake = some r ∧ r.target = some j) ∨
      (b = 0 ∧ x.intake = none ∧ ∃ j, x.chooseSlot = some j))

/-- A beat that cannot be taken now: its arbiter queue is full, or the composition table of its screen is
(R104, R149, R158). -/
def Sys2Proof.Claim.noRoom (s : State) (a : Nat) (op : BeatOp) : Prop :=
  match s.classify a, op with
  | .plain, _ | .ring, _ | .config, _ | .descriptor, _ => 16 ≤ (s.queue .pass).length
  | .intake c, .write _ _ =>
    16 ≤ (s.queue .intake).length ∧
      ∃ b < 2 ^ 40, a = (s.cam c).geom.intakeBase + b * 64 ∧ Claim.needsIntake (s.cam c) b
  | .intake c, .read =>
    16 ≤ (s.queue .intake).length ∧ ∃ j, (s.cam c).readSlot = some j
  | .screen x, .read => 32 ≤ (s.screen x).table.length
  | _, _ => False

/-- R149, R104, R158: a beat that cannot be taken is held back: nothing of the part changes. -/
def Sys2Proof.Claim.HeldBack (s : State) (i : Instr) (p : PortTag) (a : Addr) (op : BeatOp) : Prop :=
  Claim.itemOf i = some (.beat p a op) → s.quiet → Claim.noRoom s (beatBase a) op →
    exec i s = .next { s with port := { s.port with held := [.beat p a op] } }

/-- R149: every beat presented after a beat held back is held back too, in the order presented. -/
def Sys2Proof.Claim.HeldBehind (s : State) (i : Instr) (x : UpItem) : Prop :=
  Claim.itemOf i = some x → s.port.held ≠ [] →
    exec i s = .next { s with port := { s.port with held := s.port.held ++ [x] } }

/-- R158, R151, R149, R104: a beat of class PLAIN or RING, and a read of class CONFIG or DESCRIPTOR, goes to the
PASS queue with its address, data and enables unchanged; a beat that has no place is held back, and with it
every beat presented after it. -/
def Obligations.PlainBeatPassesUnchanged : Prop :=
  (∀ s p a op, Claim.PlainPassed s p a op) ∧
    (∀ s q a op, HandedTo s (s.hand q a op) q a op) ∧
    (∀ s i p a op, Claim.HeldBack s i p a op) ∧ ∀ s i x, Claim.HeldBehind s i x

/-- A camera's working settings after the merge of a write beat at the first beat of its record: every
enabled byte is taken, but for the bytes 00h to 14h where they are locked (R154, R155, 11.2). -/
def Sys2Proof.Claim.cameraMerged (d : Beat) (en : Enables) (locked : Bool) (w w' : CamSettings) :
    Prop :=
  (if locked then
    w'.intakeBase = w.intakeBase ∧ w'.slotBase = w.slotBase ∧ w'.w = w.w ∧ w'.h = w.h ∧ w'.k = w.k
  else
    w'.intakeBase.toNat = mergedLe d en 0x00 8 w.intakeBase.toNat ∧
      w'.slotBase.toNat = mergedLe d en 0x08 8 w.slotBase.toNat ∧
      w'.w.toNat = mergedLe d en 0x10 2 w.w.toNat ∧ w'.h.toNat = mergedLe d en 0x12 2 w.h.toNat ∧
      w'.k = mergedByte d en 0x14 w.k) ∧
  w'.staleFactor = mergedByte d en 0x15 w.staleFactor ∧
  w'.lostExponent = mergedByte d en 0x16 w.lostExponent ∧
  w'.gapRelax = mergedByte d en 0x17 w.gapRelax ∧
  w'.period.toNat = mergedLe d en 0x18 4 w.period.toNat ∧
  w'.gapTime.toNat = mergedLe d en 0x1C 2 w.gapTime.toNat ∧
  w'.earlyLines.toNat = mergedLe d en 0x1E 2 w.earlyLines.toNat ∧
  w'.evalInterval = mergedByte d en 0x20 w.evalInterval ∧
  w'.darkFloor = mergedByte d en 0x21 w.darkFloor ∧
  w'.brightCeiling = mergedByte d en 0x22 w.brightCeiling ∧
  w'.learnCount = mergedByte d en 0x23 w.learnCount ∧
  w'.learnShift = mergedByte d en 0x24 w.learnShift ∧
  w'.watchShift = mergedByte d en 0x25 w.watchShift ∧
  w'.dirtRatio = mergedByte d en 0x26 w.dirtRatio ∧
  w'.blockFloor = mergedByte d en 0x27 w.blockFloor ∧
  w'.minTexture.toNat = mergedLe d en 0x28 2 w.minTexture.toNat ∧
  w'.confirmCount = mergedByte d en 0x2A w.confirmCount ∧
  w'.warnTiles = mergedByte d en 0x2B w.warnTiles ∧
  w'.clearTiles = mergedByte d en 0x2C w.clearTiles ∧
  w'.restartDelay = mergedByte d en 0x2D w.restartDelay ∧
  w'.pattern = mergedByte d en 0x2E w.pattern ∧ w'.recovery = mergedByte d en 0x2F w.recovery

/-- A colour after the merge of a write beat, its bytes Y0, U, Y1, V from byte `o` on. -/
def Sys2Proof.Claim.colourMerged (d : Beat) (en : Enables) (o : Nat) (m : Macropixel) : Macropixel :=
  ⟨mergedByte d en o m.y0, mergedByte d en (o + 1) m.u, mergedByte d en (o + 2) m.y1,
    mergedByte d en (o + 3) m.v⟩

/-- A screen's working settings after the merge of a write beat at the first beat of its record: every
enabled byte is taken, but for the bytes 00h to 0Ch where they are locked (R154, R155, 11.2). -/
def Sys2Proof.Claim.screenMerged (d : Beat) (en : Enables) (locked : Bool) (w w' : ScrSettings) :
    Prop :=
  (if locked then
    w'.base = w.base ∧ w'.ws = w.ws ∧ w'.hs = w.hs ∧ w'.latchMode = w.latchMode
  else
    w'.base.toNat = mergedLe d en 0x00 8 w.base.toNat ∧
      w'.ws.toNat = mergedLe d en 0x08 2 w.ws.toNat ∧
      w'.hs.toNat = mergedLe d en 0x0A 2 w.hs.toNat ∧
      w'.latchMode = mergedByte d en 0x0C w.latchMode) ∧
  w'.syncEdge = mergedByte d en 0x0D w.syncEdge ∧
  w'.offsetTime.toNat = mergedLe d en 0x0E 2 w.offsetTime.toNat ∧
  w'.cyclePeriod.toNat = mergedLe d en 0x10 4 w.cyclePeriod.toNat ∧
  w'.border = mergedByte d en 0x14 w.border ∧
  w'.background = Claim.colourMerged d en 0x18 w.background ∧
  w'.lost = Claim.colourMerged d en 0x1C w.lost ∧
  w'.stale = Claim.colourMerged d en 0x20 w.stale ∧
  w'.warn = Claim.colourMerged d en 0x24 w.warn ∧ w'.staged = w.staged

/-- A pane entry after the merge of a write beat in which it begins at byte `o` (11.2). -/
def Sys2Proof.Claim.paneMerged (d : Beat) (en : Enables) (o : Nat) (w w' : Pane) : Prop :=
  w'.camera = mergedByte d en o w.camera ∧ w'.hdec = mergedByte d en (o + 1) w.hdec ∧
    w'.vdec = mergedByte d en (o + 2) w.vdec ∧ w'.flags = mergedByte d en (o + 3) w.flags ∧
    w'.x.toNat = mergedLe d en (o + 4) 2 w.x.toNat ∧
    w'.y.toNat = mergedLe d en (o + 6) 2 w.y.toNat ∧
    w'.width.toNat = mergedLe d en (o + 8) 2 w.width.toNat ∧
    w'.height.toNat = mergedLe d en (o + 10) 2 w.height.toNat ∧
    w'.srcX.toNat = mergedLe d en (o + 12) 2 w.srcX.toNat ∧
    w'.srcY.toNat = mergedLe d en (o + 14) 2 w.srcY.toNat

/-- The five staged layouts in the order of the screen record (11.2). -/
def Sys2Proof.Claim.layoutOf (ls : Layouts) : Fin 5 → Layout
  | 0 => ls.normal
  | 1 => ls.entrance[0]
  | 2 => ls.entrance[1]
  | 3 => ls.entrance[2]
  | 4 => ls.entrance[3]

/-- A write beat handed to the PASS queue and accepted, what it merges being all that changes besides. -/
def Sys2Proof.Claim.written (s t : State) (p : PortTag) (a : Addr) (d : Beat) (en : Enables) : Prop :=
  HandedTo s t .pass (beatBase a) (.write d en) ∧ t.port = (s.writeDone p).port

/-- A CONFIG write beat at offset `o` of the control area can be taken. -/
def Sys2Proof.Claim.configAt (s : State) (a : Addr) (o : Nat) : Prop :=
  s.quiet ∧ s.room .pass = true ∧ s.classify (beatBase a) = .config ∧ beatBase a = s.controlBase + o

/-- R154: a write of the first beat of a DISARMED camera's record. -/
def Sys2Proof.Claim.CameraWritten (s : State) (p : PortTag) (c : CamId) (a : Addr) (d : Beat)
    (en : Enables) : Prop :=
  Claim.configAt s a (0x100 + c.val * 0x100) → (s.cam c).chan = .disarmed →
    Gives (.configWrite p a d en) s fun t =>
      Claim.cameraMerged d en false (s.cam c).cfg (t.cam c).cfg ∧ Claim.written s t p a d en ∧
        t = { s.setCam c { s.cam c with cfg := (t.cam c).cfg } with port := t.port, arb := t.arb }

/-- R154: a write of the first beat of a DISABLED screen's record. -/
def Sys2Proof.Claim.ScreenWritten (s : State) (p : PortTag) (x : ScrId) (a : Addr) (d : Beat)
    (en : Enables) : Prop :=
  Claim.configAt s a (0x1000 + x.val * 0x800) → (s.screen x).state = .disabled →
    Gives (.configWrite p a d en) s fun t =>
      Claim.screenMerged d en false (s.screen x).cfg (t.screen x).cfg ∧ Claim.written s t p a d en ∧
        t = { s.setScreen x { s.screen x with cfg := (t.screen x).cfg } with
          port := t.port
          arb := t.arb }

/-- R154: a write of beat `b` of staged layout `n`, whatever the screen's state: the pane count stands in
beat 0, pane entry `i` in beat (i + 1) / 4. -/
def Sys2Proof.Claim.LayoutWritten (s : State) (p : PortTag) (x : ScrId) (n : Fin 5) (b : Fin 3)
    (a : Addr) (d : Beat) (en : Enables) : Prop :=
  Claim.configAt s a (0x1000 + x.val * 0x800 + 0x100 * (n.val + 1) + b.val * 64) →
    Gives (.configWrite p a d en) s fun t =>
      let l := Claim.layoutOf (s.screen x).cfg.staged n
      let l' := Claim.layoutOf (t.screen x).cfg.staged n
      l'.count = (if b.val = 0 then mergedByte d en 0 l.count else l.count) ∧
        (∀ i : Fin 8, if (i.val + 1) / 4 = b.val then
          Claim.paneMerged d en ((i.val + 1) % 4 * 16) l.panes[i] l'.panes[i]
          else l'.panes[i] = l.panes[i]) ∧
        (∀ m, m ≠ n →
          Claim.layoutOf (t.screen x).cfg.staged m = Claim.layoutOf (s.screen x).cfg.staged m) ∧
        Claim.written s t p a d en ∧
        t = { s.setScreen x { s.screen x with
            cfg := { (s.screen x).cfg with staged := (t.screen x).cfg.staged } } with
          port := t.port
          arb := t.arb }

/-- R154, R171: a write of the part settings record; the interrupt enable copy follows a merge that writes
it. -/
def Sys2Proof.Claim.PartWritten (s : State) (p : PortTag) (a : Addr) (d : Beat) (en : Enables) :
    Prop :=
  Claim.configAt s a 0 → Gives (.configWrite p a d en) s fun t =>
    t.part.masks.toNat = mergedLe d en 0 2 s.part.masks.toNat ∧
      t.part.intEnable = mergedByte d en 2 s.part.intEnable ∧
      t.ring = { s.ring with
        intEnable := if en.getLsbD 2 then d[2].getLsbD 0 else s.ring.intEnable } ∧
      Claim.written s t p a d en ∧
      t = { s with part := t.part, ring := t.ring, port := t.port, arb := t.arb }

/-- A line after the merge of a write beat in which its record begins at byte `o`: a change of polarity forms
the raw level anew and is handled as a change of the pin is (R75, R73). -/
def Sys2Proof.Claim.lineWritten (now : Time) (d : Beat) (en : Enables) (o : Nat) (x x' : Line) : Prop :=
  let raw := x.pin != x'.cfg.polarity.getLsbD 0
  x'.cfg.polarity = mergedByte d en o x.cfg.polarity ∧
    x'.cfg.filterTime.toNat = mergedLe d en (o + 2) 2 x.cfg.filterTime.toNat ∧
    (if x'.cfg.polarity.getLsbD 0 = x.cfg.polarity.getLsbD 0 then x' = { x with cfg := x'.cfg }
    else if raw = x.accepted then
      x' = { x with
        cfg := x'.cfg
        raw := raw
        filterTimer := none
        rejected := if x.filterTimer.isSome then x.rejected + 1 else x.rejected }
    else if x'.cfg.filterTime.toNat = 0 then
      x' = { x with
        cfg := x'.cfg
        raw := raw
        accepted := raw
        filterTimer := none
        edges := x.edges + 1 }
    else
      x' = { x with
        cfg := x'.cfg
        raw := raw
        filterTimer := some (now + x'.cfg.filterTime.setWidth 32) })

/-- The engine after a list of edges, one after the other (R126). -/
def Sys2Proof.Claim.edgesTaken (e : Engine) : List (LineId × Bool) → Engine → Prop
  | [], e' => e' = e
  | (l, r) :: rest, e' => ∃ m, e.takesEvent m (.edge l r) ∧ Claim.edgesTaken m rest e'

/-- R154, R75: a write of the beat that holds the four entrance line records. The lines whose polarity it
changes are handled after the whole beat is merged, in the order of the lines (the model's choice, log entry
13). -/
def Sys2Proof.Claim.LinesWritten (s : State) (p : PortTag) (a : Addr) (d : Beat) (en : Enables) :
    Prop :=
  Claim.configAt s a 0x3000 → Gives (.configWrite p a d en) s fun t =>
    (∀ l : LineId, Claim.lineWritten s.timebase d en (l.val * 16) (s.line l) (t.line l)) ∧
      Claim.edgesTaken s.engine
        ((allLines.filter fun l => (t.line l).edges != (s.line l).edges).map fun l =>
          (l, (t.line l).raw)) t.engine ∧
      Claim.written s t p a d en ∧
      t = { s with lines := t.lines, engine := t.engine, port := t.port, arb := t.arb }

/-- The beats of the config page that hold no setting (11.2). -/
def Sys2Proof.Claim.noSetting (o : Nat) : Prop :=
  (0x40 ≤ o ∧ o < 0x100) ∨ (0x100 ≤ o ∧ o < 0x700 ∧ 0x40 ≤ o % 0x100) ∨ (0x700 ≤ o ∧ o < 0x1000) ∨
    (0x1000 ≤ o ∧ o < 0x2800 ∧
      ((0x40 ≤ o % 0x800 ∧ o % 0x800 < 0x100) ∨ 0x600 ≤ o % 0x800 ∨ 0xC0 ≤ o % 0x100)) ∨
    (0x2800 ≤ o ∧ o < 0x3000) ∨ (0x3040 ≤ o ∧ o < 0x4000)

/-- R154: a write to a beat that holds no setting reaches DRAM and merges nothing. -/
def Sys2Proof.Claim.NothingWritten (s : State) (p : PortTag) (a : Addr) (d : Beat) (en : Enables)
    (o : Nat) : Prop :=
  Claim.configAt s a o → o % 64 = 0 → Claim.noSetting o →
    Gives (.configWrite p a d en) s fun t =>
      Claim.written s t p a d en ∧ t = { s with port := t.port, arb := t.arb }

/-- R154, R178, R75, R171: a CONFIG write goes to the PASS queue and gives every unlocked field of its beat
the enabled bytes, little-endian, at the offsets of 11.2: camera, screen, staged layouts, part settings and
entrance lines. -/
def Obligations.ConfigWriteMergesCamera : Prop :=
  (∀ s p c a d en, Claim.CameraWritten s p c a d en) ∧
    (∀ s p x a d en, Claim.ScreenWritten s p x a d en) ∧
    (∀ s p x n b a d en, Claim.LayoutWritten s p x n b a d en) ∧
    (∀ s p a d en, Claim.PartWritten s p a d en) ∧ (∀ s p a d en, Claim.LinesWritten s p a d en) ∧
    ∀ s p a d en o, Claim.NothingWritten s p a d en o

/-- The CONFIG_IGNORED report of a write beat handed to the PASS queue, with the number of its enabled bytes
among the first `size`, which are locked; none where there are none (R155). -/
def Sys2Proof.Claim.ignored (s t : State) (a : Addr) (d : Beat) (en : Enables) (o size : Nat) : Prop :=
  let n := (List.range size).countP (en.getLsbD ·)
  let u := s.hand .pass (beatBase a) (.write d en)
  if n = 0 then NoReport u t
  else Reported u t .configIgnored 0 (BitVec.ofNat 32 o) (BitVec.ofNat 32 n)

/-- R155: a write of the first beat of an armed camera's record. -/
def Sys2Proof.Claim.ArmedCameraWritten (s : State) (p : PortTag) (c : CamId) (a : Addr) (d : Beat)
    (en : Enables) : Prop :=
  Claim.configAt s a (0x100 + c.val * 0x100) → (s.cam c).chan ≠ .disarmed →
    Gives (.configWrite p a d en) s fun t =>
      Claim.cameraMerged d en true (s.cam c).cfg (t.cam c).cfg ∧
        Claim.ignored s t a d en (0x100 + c.val * 0x100) 0x15 ∧
        t = { s.setCam c { s.cam c with cfg := (t.cam c).cfg } with
          port := (s.writeDone p).port
          ring := t.ring
          attention := t.attention
          arb := t.arb }

/-- R155: a write of the first beat of the record of a screen in WAIT_LATCH or RUNNING. -/
def Sys2Proof.Claim.EnabledScreenWritten (s : State) (p : PortTag) (x : ScrId) (a : Addr) (d : Beat)
    (en : Enables) : Prop :=
  Claim.configAt s a (0x1000 + x.val * 0x800) → (s.screen x).state ≠ .disabled →
    Gives (.configWrite p a d en) s fun t =>
      Claim.screenMerged d en true (s.screen x).cfg (t.screen x).cfg ∧
        Claim.ignored s t a d en (0x1000 + x.val * 0x800) 0x0D ∧
        t = { s.setScreen x { s.screen x with cfg := (t.screen x).cfg } with
          port := (s.writeDone p).port
          ring := t.ring
          attention := t.attention
          arb := t.arb }

/-- R155: while a camera is armed, window base, slot area base, W, H and K keep their values, and while a
screen is enabled, window base, Ws, Hs and latch mode; the beat still goes to the PASS queue, every other
field takes its enabled bytes, and the locked bytes are counted in a CONFIG_IGNORED report. -/
def Obligations.LockedBytesNotMerged : Prop :=
  (∀ s p c a d en, Claim.ArmedCameraWritten s p c a d en) ∧
    ∀ s p x a d en, Claim.EnabledScreenWritten s p x a d en

/-- R125, R128, R145: a write of descriptor n's record goes to the PASS queue and gives the trigger copy its
enabled bytes; a write of the armed byte clears n's owed ARM write, and an ARM(n) remembered for a load that
is still to be handed; the other copies are as they were. -/
def Obligations.DescriptorWriteMerged : Prop :=
  ∀ (s : State) (p : PortTag) (n : DescId) (a : Addr) (d : Beat) (en : Enables), s.quiet →
    s.room .pass = true → s.classify (beatBase a) = .descriptor →
    beatBase a = s.controlBase + 0x4000 + n.val * 64 →
    Gives (.descriptorWrite p a d en) s fun t =>
      let u := s.engine.copyOf n
      let u' := t.engine.copyOf n
      u'.enable = mergedByte d en 0x00 u.enable ∧ u'.armed = mergedByte d en 0x01 u.armed ∧
        u'.camera = mergedByte d en 0x05 u.camera ∧ u'.source = mergedByte d en 0x06 u.source ∧
        u'.edge = mergedByte d en 0x07 u.edge ∧
        u'.remaining.toNat = mergedLe d en 0x10 2 u.remaining.toNat ∧
        (∀ m, m ≠ n → t.engine.copyOf m = s.engine.copyOf m) ∧
        (∀ m : DescId, t.engine.armOwed.getLsbD m.val =
          (s.engine.armOwed.getLsbD m.val && !(m == n && en.getLsbD 1))) ∧
        t.engine.armLate = (if en.getLsbD 1 = true ∧ s.engine.running = some n ∧
          s.engine.loadHanded = false then false else s.engine.armLate) ∧
        HandedTo s t .pass (beatBase a) (.write d en) ∧
        t = { s with
          engine :=
            { s.engine with
              copies := t.engine.copies
              armOwed := t.engine.armOwed
              armLate := t.engine.armLate }
          port := (s.writeDone p).port
          arb := t.arb }

/-- What a grant does at DRAM: a write is applied under its enables, byte by byte, and a read takes the
bytes DRAM holds (R149, R159). -/
def Sys2Proof.Claim.sent (s t : State) (h : MemBeat) : Prop :=
  (∀ d en, h.op = .write d en → t.reads = s.reads ∧
    ∀ a, Memory.byte t.dram a =
      if hb : h.addr ≤ a ∧ a < h.addr + 64 ∧ en.getLsbD (a - h.addr) = true then
        d[a - h.addr]'(by omega)
      else Memory.byte s.dram a) ∧
  (∀ o, h.op = .read o → t.dram = s.dram ∧
    ∃ d, t.reads = s.reads ++ [⟨o, h.addr, d⟩] ∧
      ∀ i : Fin 64, d[i] = Memory.byte s.dram (h.addr + i.val))

/-- The place of a source in the order of R159. -/
def Sys2Proof.Claim.place : Queue → Nat
  | .pass => 0
  | .intake => 1
  | .compose => 2
  | .copy => 3
  | .desc => 4
  | .report => 5

/-- The turn of source `q` after `last` has been granted: 0 for the source after it, 5 for itself (R159). -/
def Sys2Proof.Claim.turn (last q : Queue) : Nat := (Claim.place q + 5 - Claim.place last) % 6

/-- Beat `h` is the head of queue `q` and eligible: of the beats of other queues that were handed earlier, one to
the same DRAM beat address and `h` itself are both reads (R159). -/
def Sys2Proof.Claim.eligible (s : State) (q : Queue) (h : MemBeat) : Prop :=
  (s.queue q).head? = some h ∧
    ∀ x, x ≠ q → ∀ b ∈ s.queue x, b.order < h.order → b.addr = h.addr →
      (∃ o, b.op = .read o) ∧ ∃ o, h.op = .read o

/-- Queue `q` is the first source, in turn, whose head is eligible: every source before it is empty or has a head
that is not (R159). -/
def Sys2Proof.Claim.grants (s : State) (q : Queue) (h : MemBeat) (rest : List MemBeat) : Prop :=
  Memory.wf s.dram ∧ s.queue q = h :: rest ∧ Claim.eligible s q h ∧
    ∀ x, Claim.turn s.arb.last x < Claim.turn s.arb.last q → ∀ g, ¬Claim.eligible s x g

/-- R159: a grant where no beat is held back. -/
def Sys2Proof.Claim.Granted (s : State) (q : Queue) (h : MemBeat) (rest : List MemBeat) : Prop :=
  s.quiet → Claim.grants s q h rest → Gives .arbiterGrant s fun t =>
    t.queue q = rest ∧ (∀ x, x ≠ q → t.queue x = s.queue x) ∧ t.arb.last = q ∧
      t.arb.handed = s.arb.handed ∧ Claim.sent s t h ∧
      t = { s with arb := t.arb, dram := t.dram, reads := t.reads }

/-- R149, R158: a grant that frees a place in the full PASS queue takes the plain beat held back first, and
holds the beats behind it on while the next is one for that queue too. -/
def Sys2Proof.Claim.GrantedTakesHeld (s : State) (h : MemBeat) (rest : List MemBeat) (p : PortTag)
    (a : Addr) (op : BeatOp) (later : List UpItem) : Prop :=
  s.port.held = .beat p a op :: later → s.classify (beatBase a) = .plain →
    (later = [] ∨ ∃ p' a' op' more, later = .beat p' a' op' :: more ∧
      s.classify (beatBase a') = .plain) →
    (s.queue .pass).length = 16 → Claim.grants s .pass h rest →
    Gives .arbiterGrant s fun t =>
      t.queue .pass = rest ++ [⟨s.arb.handed, beatBase a, Claim.passed s p op⟩] ∧
        (∀ x, x ≠ .pass → t.queue x = s.queue x) ∧ t.arb.last = .pass ∧
        t.arb.handed = s.arb.handed + 1 ∧ Claim.sent s t h ∧
        t = { s with
          port := { Claim.passedPort s p op with held := later }
          arb := t.arb
          dram := t.dram
          reads := t.reads }

/-- R159: with no eligible head there is no grant. -/
def Sys2Proof.Claim.NothingGranted (s : State) : Prop :=
  s.quiet → (∀ q h, ¬Claim.eligible s q h) → exec .arbiterGrant s = .next s

/-- R159: where the beat handed earliest of all is queued, a beat is granted: that one, or one of a source whose
turn comes before. -/
def Sys2Proof.Claim.EarliestEligible (s : State) (q : Queue) (h : MemBeat) (rest : List MemBeat) : Prop :=
  s.quiet → Memory.wf s.dram → s.queue q = h :: rest → (∀ x, ∀ b ∈ s.queue x, h.order ≤ b.order) →
    Gives .arbiterGrant s fun t => ∃ x g more, Claim.grants s x g more ∧
      Claim.turn s.arb.last x ≤ Claim.turn s.arb.last q ∧ t.queue x = more ∧ t.arb.last = x ∧
      Claim.sent s t g

/-- R159, R149, R158: the sources are taken in the order PASS, INTAKE, COMPOSE, COPY, DESC, REPORT, circularly from
the one after the last granted, and the first whose head is eligible is granted: its head goes to DRAM and
leaves the queue, and it becomes the last granted. The sources passed over, empty or with a head that is not
eligible, keep their beats; a beat held back for a place is accepted at the grant that frees one. -/
def Obligations.GrantSendsFirstEligible : Prop :=
  (∀ s q h rest, Claim.Granted s q h rest) ∧ (∀ s, Claim.NothingGranted s) ∧
    (∀ s q h rest, Claim.EarliestEligible s q h rest) ∧
    ∀ s h rest p a op later, Claim.GrantedTakesHeld s h rest p a op later

/-- The code of a report kind (11.6). -/
def Sys2Proof.Claim.kindCode : Kind → Byte
  | .camLive => 0
  | .camStale => 1
  | .camLost => 2
  | .frameTruncated => 3
  | .dropBegin => 4
  | .learnDone => 5
  | .verdict => 6
  | .layoutChanged => 7
  | .windowMisuse => 8
  | .configIgnored => 9
  | .snapDone => 10
  | .snapEnded => 11

/-- The record at ring position `n` in the beat that writes it (R173, R178, 11.4). -/
def Sys2Proof.Claim.recordAt (x : Record) (n : Nat) (d : Beat) : Prop :=
  let o := n % 4 * 16
  beatByte d o = Claim.kindCode x.kind ∧ beatByte d (o + 1) = x.source ∧
    beatByte d (o + 2) = x.seq ∧ beatByte d (o + 3) = 0 ∧ beatLe d (o + 4) 4 = x.time.toNat ∧
    beatLe d (o + 8) 4 = x.detail0.toNat ∧ beatLe d (o + 12) 4 = x.detail1.toNat

/-- The beat handed for record `x` at ring position `n` (R173, R179). -/
def Sys2Proof.Claim.recordBeat (s : State) (x : Record) (n : Nat) (b : MemBeat) : Prop :=
  b.addr = s.controlBase + 0xC000 + n / 4 * 64 ∧
    ∃ d, b.op = .write d (0xFFFF <<< (n % 4 * 16)) ∧ Claim.recordAt x n d

/-- R173: the record at the head of the staging list is handed. -/
def Sys2Proof.Claim.RecordHanded (s : State) (x : Record) (rest : List Record) : Prop :=
  s.quiet → s.ring.staging = x :: rest → s.room .report = true →
    Gives .reportHanding s fun t =>
      ∃ b, Claim.recordBeat s x s.ring.producer.toNat b ∧ HandedTo s t .report b.addr b.op ∧
        t.ring.producer.toNat = (s.ring.producer.toNat + 1) % 64 ∧
        t = { s with
          ring := { s.ring with staging := rest, producer := t.ring.producer }
          arb := t.arb }

/-- R173: with nothing staged, or with the REPORT queue full, no record is handed. -/
def Sys2Proof.Claim.RecordStays (s : State) : Prop :=
  s.quiet → (s.ring.staging = [] ∨ (s.queue .report).length = 16) →
    exec .reportHanding s = .next s

/-- The group of the attention summary a kind sets (R170). -/
def Sys2Proof.Claim.groupSet (a : Attention) : Kind → Attention
  | .camLive | .camStale | .camLost | .frameTruncated | .dropBegin => { a with camera := true }
  | .learnDone | .verdict => { a with eval := true }
  | .layoutChanged | .windowMisuse => { a with screen := true }
  | .snapDone | .snapEnded => { a with snap := true }
  | .configIgnored => { a with config := true }

/-- Of the records `xs` on the staging list, as many as the REPORT queue has places for are handed, oldest
first, at successive ring positions; the others stay staged (R173). -/
def Sys2Proof.Claim.recordsHanded (s t : State) (xs : List Record) : Prop :=
  let k := min xs.length (16 - (s.queue .report).length)
  t.ring.staging = xs.drop k ∧ t.ring.producer = s.ring.producer + BitVec.ofNat 6 k ∧
    t.arb.handed = s.arb.handed + k ∧ OneQueue s t .report ∧
    (t.queue .report).take (s.queue .report).length = s.queue .report ∧
    (t.queue .report).length = (s.queue .report).length + k ∧
    ∀ i x, i < k → xs[i]? = some x →
      ∃ b, (t.queue .report)[(s.queue .report).length + i]? = some b ∧
        b.order = s.arb.handed + i ∧
        Claim.recordBeat s x ((s.ring.producer.toNat + i) % 64) b

/-- R172, R173: what a report leaves, of whatever kind, source and details. -/
def Sys2Proof.Claim.ReportMade (s : State) (k : Kind) (src : Nat) (d0 d1 : BitVec 32) : Prop :=
  let t := s.report k src d0 d1
  let n := (s.ring.producer - s.ring.consumer).toNat + s.ring.staging.length
  t.attention = Claim.groupSet s.attention k ∧
    t = { s with attention := t.attention, ring := t.ring, arb := t.arb } ∧
    (s.part.masks.getLsbD (Claim.kindCode k).toNat = true → t.ring = s.ring ∧ t.arb = s.arb) ∧
    (s.part.masks.getLsbD (Claim.kindCode k).toNat = false →
      t.ring.seq = s.ring.seq + 1 ∧ t.ring.consumer = s.ring.consumer ∧
      t.ring.intEnable = s.ring.intEnable ∧
      (n < 63 →
        t.ring.overflow = s.ring.overflow ∧ t.ring.lost = s.ring.lost ∧
        Claim.recordsHanded s t
          (s.ring.staging ++ [⟨k, BitVec.ofNat 8 src, s.ring.seq, s.timebase, d0, d1⟩])) ∧
      (63 ≤ n →
        t.ring.overflow = true ∧ t.ring.lost.toNat = min 65535 (s.ring.lost.toNat + 1) ∧
        Claim.recordsHanded s t s.ring.staging))

/-- R170, R172, R173, R178, R179: what a report leaves (attention group, mask, sequence, full rule, record),
and the handing of a record: its 16 bytes at the ring position of the producer index, with their enables. -/
def Obligations.ReportHanded : Prop :=
  (∀ s x rest, Claim.RecordHanded s x rest) ∧ (∀ s, Claim.RecordStays s) ∧
    ∀ s k src d0 d1, Claim.ReportMade s k src d0 d1

/-! ### What every step keeps -/

/-- The canonical form of DRAM is kept by every step. -/
def Obligations.StepKeepsDramCanonical : Prop :=
  ∀ s t : State, s.dramWf → step s = .next t → t.dramWf

/-- R171, R176, R158, R103, R162: the ring's occupancy stays at 63 or less, no queue grows past 16 beats and
no composition table past 32 entries, and no timer stands at a time that is past. -/
def Obligations.StepKeepsBounds : Prop :=
  ∀ s t : State, s.ringBounded ∧ s.queuesBounded ∧ s.tablesBounded ∧ s.timersAhead →
    step s = .next t → t.ringBounded ∧ t.queuesBounded ∧ t.tablesBounded ∧ t.timersAhead

/-- R20: frames started stays frames completed plus frames truncated, plus one while a frame is in
progress. -/
def Obligations.StepKeepsFrameCounters : Prop :=
  ∀ s t : State, s.counted → step s = .next t → t.counted

/-- R129: a slot carries the SNAP tag only while the engine is COPYING from that slot. -/
def Obligations.StepKeepsSnapHold : Prop :=
  ∀ s t : State, s.snapHeld → step s = .next t → t.snapHeld

/-- R55, R57, R69: an evaluator's level stays the number of its confirmed tiles, and its verdict is CLEAN
exactly at level 0. -/
def Obligations.StepKeepsVerdictOfLevel : Prop :=
  ∀ s t : State, s.judged → step s = .next t → t.judged

/-- R85, R165: a screen's word stays open exactly while a COMMIT is pending, under its tag. -/
def Obligations.StepKeepsWordsOfCommits : Prop :=
  ∀ s t : State, s.wordsAgree → step s = .next t → t.wordsAgree

/-- Every one of these holds of the state after reset. -/
def Obligations.InvariantsHoldAtReset : Prop :=
  State.reset.dramWf ∧ State.reset.ringBounded ∧ State.reset.queuesBounded ∧
    State.reset.tablesBounded ∧ State.reset.timersAhead ∧ State.reset.counted ∧
    State.reset.snapHeld ∧ State.reset.judged ∧ State.reset.wordsAgree
end

