-- ==== Sys2Proof/Laws/State.lean ====
section
/-!
SUPPORT. One lemma per field per update of the state, so that no proof unfolds a record update.
-/
namespace Sys2Proof.Machine

/-! ### Camera, screen, line, engine -/

@[simp] theorem State.cam_setCam_self (s : State) (c : CamId) (x : Camera) :
    (s.setCam c x).cam c = x := by simp [State.cam, State.setCam]

theorem State.cam_setCam_of_ne (s : State) {c d : CamId} (x : Camera) (h : d ≠ c) :
    (s.setCam c x).cam d = s.cam d := by
  simp only [State.cam, State.setCam]
  exact Vector.getElem_set_ne _ _ (fun e => h (Fin.ext e.symm))

theorem State.cam_setCam (s : State) (c d : CamId) (x : Camera) :
    (s.setCam c x).cam d = if d = c then x else s.cam d := by
  split
  · next h => subst h; exact State.cam_setCam_self ..
  · next h => exact State.cam_setCam_of_ne s x h

@[simp] theorem State.screen_setScreen_self (s : State) (c : ScrId) (x : Screen) :
    (s.setScreen c x).screen c = x := by simp [State.screen, State.setScreen]

theorem State.screen_setScreen_of_ne (s : State) {c d : ScrId} (x : Screen) (h : d ≠ c) :
    (s.setScreen c x).screen d = s.screen d := by
  simp only [State.screen, State.setScreen]
  exact Vector.getElem_set_ne _ _ (fun e => h (Fin.ext e.symm))

theorem State.screen_setScreen (s : State) (c d : ScrId) (x : Screen) :
    (s.setScreen c x).screen d = if d = c then x else s.screen d := by
  split
  · next h => subst h; exact State.screen_setScreen_self ..
  · next h => exact State.screen_setScreen_of_ne s x h

@[simp] theorem State.line_setLine_self (s : State) (c : LineId) (x : Line) :
    (s.setLine c x).line c = x := by simp [State.line, State.setLine]

theorem State.line_setLine_of_ne (s : State) {c d : LineId} (x : Line) (h : d ≠ c) :
    (s.setLine c x).line d = s.line d := by
  simp only [State.line, State.setLine]
  exact Vector.getElem_set_ne _ _ (fun e => h (Fin.ext e.symm))

theorem State.line_setLine (s : State) (c d : LineId) (x : Line) :
    (s.setLine c x).line d = if d = c then x else s.line d := by
  split
  · next h => subst h; exact State.line_setLine_self ..
  · next h => exact State.line_setLine_of_ne s x h

/-! ### Request and answer words -/

@[simp] theorem State.mailbox_setMailbox_self (s : State) (o : Owner) (m : Mailbox) :
    (s.setMailbox o m).mailbox o = m := by
  cases o <;> simp [State.mailbox, State.setMailbox]

theorem State.mailbox_setMailbox_of_ne (s : State) {o q : Owner} (m : Mailbox) (h : q ≠ o) :
    (s.setMailbox o m).mailbox q = s.mailbox q := by
  cases o <;> cases q <;> simp_all [State.mailbox, State.setMailbox] <;>
    exact Vector.getElem_set_ne _ _ (fun e => h (Fin.ext e.symm))

theorem State.setMailbox_eq (s : State) (o : Owner) (m : Mailbox) :
    s.setMailbox o m = { s with words := (s.setMailbox o m).words } := by cases o <;> rfl

/-! ### What each update leaves -/

@[simp] theorem State.pending_setCam (s : State) (c : CamId) (x : Camera) :
    (s.setCam c x).pending = s.pending := rfl

@[simp] theorem State.timebase_setCam (s : State) (c : CamId) (x : Camera) :
    (s.setCam c x).timebase = s.timebase := rfl

@[simp] theorem State.strapBase_setCam (s : State) (c : CamId) (x : Camera) :
    (s.setCam c x).strapBase = s.strapBase := rfl

@[simp] theorem State.strapMhz_setCam (s : State) (c : CamId) (x : Camera) :
    (s.setCam c x).strapMhz = s.strapMhz := rfl

@[simp] theorem State.lines_setCam (s : State) (c : CamId) (x : Camera) :
    (s.setCam c x).lines = s.lines := rfl

@[simp] theorem State.screens_setCam (s : State) (c : CamId) (x : Camera) :
    (s.setCam c x).screens = s.screens := rfl

@[simp] theorem State.fetchWait_setCam (s : State) (c : CamId) (x : Camera) :
    (s.setCam c x).fetchWait = s.fetchWait := rfl

@[simp] theorem State.nextEntry_setCam (s : State) (c : CamId) (x : Camera) :
    (s.setCam c x).nextEntry = s.nextEntry := rfl

@[simp] theorem State.engine_setCam (s : State) (c : CamId) (x : Camera) :
    (s.setCam c x).engine = s.engine := rfl

@[simp] theorem State.part_setCam (s : State) (c : CamId) (x : Camera) :
    (s.setCam c x).part = s.part := rfl

@[simp] theorem State.ring_setCam (s : State) (c : CamId) (x : Camera) :
    (s.setCam c x).ring = s.ring := rfl

@[simp] theorem State.attention_setCam (s : State) (c : CamId) (x : Camera) :
    (s.setCam c x).attention = s.attention := rfl

@[simp] theorem State.words_setCam (s : State) (c : CamId) (x : Camera) :
    (s.setCam c x).words = s.words := rfl

@[simp] theorem State.liveReads_setCam (s : State) (c : CamId) (x : Camera) :
    (s.setCam c x).liveReads = s.liveReads := rfl

@[simp] theorem State.port_setCam (s : State) (c : CamId) (x : Camera) :
    (s.setCam c x).port = s.port := rfl

@[simp] theorem State.arb_setCam (s : State) (c : CamId) (x : Camera) :
    (s.setCam c x).arb = s.arb := rfl

@[simp] theorem State.dram_setCam (s : State) (c : CamId) (x : Camera) :
    (s.setCam c x).dram = s.dram := rfl

@[simp] theorem State.reads_setCam (s : State) (c : CamId) (x : Camera) :
    (s.setCam c x).reads = s.reads := rfl

@[simp] theorem State.pending_setScreen (s : State) (c : ScrId) (x : Screen) :
    (s.setScreen c x).pending = s.pending := rfl

@[simp] theorem State.timebase_setScreen (s : State) (c : ScrId) (x : Screen) :
    (s.setScreen c x).timebase = s.timebase := rfl

@[simp] theorem State.strapBase_setScreen (s : State) (c : ScrId) (x : Screen) :
    (s.setScreen c x).strapBase = s.strapBase := rfl

@[simp] theorem State.strapMhz_setScreen (s : State) (c : ScrId) (x : Screen) :
    (s.setScreen c x).strapMhz = s.strapMhz := rfl

@[simp] theorem State.cams_setScreen (s : State) (c : ScrId) (x : Screen) :
    (s.setScreen c x).cams = s.cams := rfl

@[simp] theorem State.lines_setScreen (s : State) (c : ScrId) (x : Screen) :
    (s.setScreen c x).lines = s.lines := rfl

@[simp] theorem State.fetchWait_setScreen (s : State) (c : ScrId) (x : Screen) :
    (s.setScreen c x).fetchWait = s.fetchWait := rfl

@[simp] theorem State.nextEntry_setScreen (s : State) (c : ScrId) (x : Screen) :
    (s.setScreen c x).nextEntry = s.nextEntry := rfl

@[simp] theorem State.engine_setScreen (s : State) (c : ScrId) (x : Screen) :
    (s.setScreen c x).engine = s.engine := rfl

@[simp] theorem State.part_setScreen (s : State) (c : ScrId) (x : Screen) :
    (s.setScreen c x).part = s.part := rfl

@[simp] theorem State.ring_setScreen (s : State) (c : ScrId) (x : Screen) :
    (s.setScreen c x).ring = s.ring := rfl

@[simp] theorem State.attention_setScreen (s : State) (c : ScrId) (x : Screen) :
    (s.setScreen c x).attention = s.attention := rfl

@[simp] theorem State.words_setScreen (s : State) (c : ScrId) (x : Screen) :
    (s.setScreen c x).words = s.words := rfl

@[simp] theorem State.liveReads_setScreen (s : State) (c : ScrId) (x : Screen) :
    (s.setScreen c x).liveReads = s.liveReads := rfl

@[simp] theorem State.port_setScreen (s : State) (c : ScrId) (x : Screen) :
    (s.setScreen c x).port = s.port := rfl

@[simp] theorem State.arb_setScreen (s : State) (c : ScrId) (x : Screen) :
    (s.setScreen c x).arb = s.arb := rfl

@[simp] theorem State.dram_setScreen (s : State) (c : ScrId) (x : Screen) :
    (s.setScreen c x).dram = s.dram := rfl

@[simp] theorem State.reads_setScreen (s : State) (c : ScrId) (x : Screen) :
    (s.setScreen c x).reads = s.reads := rfl

@[simp] theorem State.pending_setLine (s : State) (c : LineId) (x : Line) :
    (s.setLine c x).pending = s.pending := rfl

@[simp] theorem State.timebase_setLine (s : State) (c : LineId) (x : Line) :
    (s.setLine c x).timebase = s.timebase := rfl

@[simp] theorem State.strapBase_setLine (s : State) (c : LineId) (x : Line) :
    (s.setLine c x).strapBase = s.strapBase := rfl

@[simp] theorem State.strapMhz_setLine (s : State) (c : LineId) (x : Line) :
    (s.setLine c x).strapMhz = s.strapMhz := rfl

@[simp] theorem State.cams_setLine (s : State) (c : LineId) (x : Line) :
    (s.setLine c x).cams = s.cams := rfl

@[simp] theorem State.screens_setLine (s : State) (c : LineId) (x : Line) :
    (s.setLine c x).screens = s.screens := rfl

@[simp] theorem State.fetchWait_setLine (s : State) (c : LineId) (x : Line) :
    (s.setLine c x).fetchWait = s.fetchWait := rfl

@[simp] theorem State.nextEntry_setLine (s : State) (c : LineId) (x : Line) :
    (s.setLine c x).nextEntry = s.nextEntry := rfl

@[simp] theorem State.engine_setLine (s : State) (c : LineId) (x : Line) :
    (s.setLine c x).engine = s.engine := rfl

@[simp] theorem State.part_setLine (s : State) (c : LineId) (x : Line) :
    (s.setLine c x).part = s.part := rfl

@[simp] theorem State.ring_setLine (s : State) (c : LineId) (x : Line) :
    (s.setLine c x).ring = s.ring := rfl

@[simp] theorem State.attention_setLine (s : State) (c : LineId) (x : Line) :
    (s.setLine c x).attention = s.attention := rfl

@[simp] theorem State.words_setLine (s : State) (c : LineId) (x : Line) :
    (s.setLine c x).words = s.words := rfl

@[simp] theorem State.liveReads_setLine (s : State) (c : LineId) (x : Line) :
    (s.setLine c x).liveReads = s.liveReads := rfl

@[simp] theorem State.port_setLine (s : State) (c : LineId) (x : Line) :
    (s.setLine c x).port = s.port := rfl

@[simp] theorem State.arb_setLine (s : State) (c : LineId) (x : Line) :
    (s.setLine c x).arb = s.arb := rfl

@[simp] theorem State.dram_setLine (s : State) (c : LineId) (x : Line) :
    (s.setLine c x).dram = s.dram := rfl

@[simp] theorem State.reads_setLine (s : State) (c : LineId) (x : Line) :
    (s.setLine c x).reads = s.reads := rfl

@[simp] theorem State.pending_setEngine (s : State) (e : Engine) :
    (s.setEngine e).pending = s.pending := rfl

@[simp] theorem State.timebase_setEngine (s : State) (e : Engine) :
    (s.setEngine e).timebase = s.timebase := rfl

@[simp] theorem State.strapBase_setEngine (s : State) (e : Engine) :
    (s.setEngine e).strapBase = s.strapBase := rfl

@[simp] theorem State.strapMhz_setEngine (s : State) (e : Engine) :
    (s.setEngine e).strapMhz = s.strapMhz := rfl

@[simp] theorem State.cams_setEngine (s : State) (e : Engine) :
    (s.setEngine e).cams = s.cams := rfl

@[simp] theorem State.lines_setEngine (s : State) (e : Engine) :
    (s.setEngine e).lines = s.lines := rfl

@[simp] theorem State.screens_setEngine (s : State) (e : Engine) :
    (s.setEngine e).screens = s.screens := rfl

@[simp] theorem State.fetchWait_setEngine (s : State) (e : Engine) :
    (s.setEngine e).fetchWait = s.fetchWait := rfl

@[simp] theorem State.nextEntry_setEngine (s : State) (e : Engine) :
    (s.setEngine e).nextEntry = s.nextEntry := rfl

@[simp] theorem State.part_setEngine (s : State) (e : Engine) :
    (s.setEngine e).part = s.part := rfl

@[simp] theorem State.ring_setEngine (s : State) (e : Engine) :
    (s.setEngine e).ring = s.ring := rfl

@[simp] theorem State.attention_setEngine (s : State) (e : Engine) :
    (s.setEngine e).attention = s.attention := rfl

@[simp] theorem State.words_setEngine (s : State) (e : Engine) :
    (s.setEngine e).words = s.words := rfl

@[simp] theorem State.liveReads_setEngine (s : State) (e : Engine) :
    (s.setEngine e).liveReads = s.liveReads := rfl

@[simp] theorem State.port_setEngine (s : State) (e : Engine) :
    (s.setEngine e).port = s.port := rfl

@[simp] theorem State.arb_setEngine (s : State) (e : Engine) :
    (s.setEngine e).arb = s.arb := rfl

@[simp] theorem State.dram_setEngine (s : State) (e : Engine) :
    (s.setEngine e).dram = s.dram := rfl

@[simp] theorem State.reads_setEngine (s : State) (e : Engine) :
    (s.setEngine e).reads = s.reads := rfl

@[simp] theorem State.pending_hand (s : State) (q : Queue) (a : Nat) (op : MemOp) :
    (s.hand q a op).pending = s.pending := rfl

@[simp] theorem State.timebase_hand (s : State) (q : Queue) (a : Nat) (op : MemOp) :
    (s.hand q a op).timebase = s.timebase := rfl

@[simp] theorem State.strapBase_hand (s : State) (q : Queue) (a : Nat) (op : MemOp) :
    (s.hand q a op).strapBase = s.strapBase := rfl

@[simp] theorem State.strapMhz_hand (s : State) (q : Queue) (a : Nat) (op : MemOp) :
    (s.hand q a op).strapMhz = s.strapMhz := rfl

@[simp] theorem State.cams_hand (s : State) (q : Queue) (a : Nat) (op : MemOp) :
    (s.hand q a op).cams = s.cams := rfl

@[simp] theorem State.lines_hand (s : State) (q : Queue) (a : Nat) (op : MemOp) :
    (s.hand q a op).lines = s.lines := rfl

@[simp] theorem State.screens_hand (s : State) (q : Queue) (a : Nat) (op : MemOp) :
    (s.hand q a op).screens = s.screens := rfl

@[simp] theorem State.fetchWait_hand (s : State) (q : Queue) (a : Nat) (op : MemOp) :
    (s.hand q a op).fetchWait = s.fetchWait := rfl

@[simp] theorem State.nextEntry_hand (s : State) (q : Queue) (a : Nat) (op : MemOp) :
    (s.hand q a op).nextEntry = s.nextEntry := rfl

@[simp] theorem State.engine_hand (s : State) (q : Queue) (a : Nat) (op : MemOp) :
    (s.hand q a op).engine = s.engine := rfl

@[simp] theorem State.part_hand (s : State) (q : Queue) (a : Nat) (op : MemOp) :
    (s.hand q a op).part = s.part := rfl

@[simp] theorem State.ring_hand (s : State) (q : Queue) (a : Nat) (op : MemOp) :
    (s.hand q a op).ring = s.ring := rfl

@[simp] theorem State.attention_hand (s : State) (q : Queue) (a : Nat) (op : MemOp) :
    (s.hand q a op).attention = s.attention := rfl

@[simp] theorem State.words_hand (s : State) (q : Queue) (a : Nat) (op : MemOp) :
    (s.hand q a op).words = s.words := rfl

@[simp] theorem State.liveReads_hand (s : State) (q : Queue) (a : Nat) (op : MemOp) :
    (s.hand q a op).liveReads = s.liveReads := rfl

@[simp] theorem State.port_hand (s : State) (q : Queue) (a : Nat) (op : MemOp) :
    (s.hand q a op).port = s.port := rfl

@[simp] theorem State.dram_hand (s : State) (q : Queue) (a : Nat) (op : MemOp) :
    (s.hand q a op).dram = s.dram := rfl

@[simp] theorem State.reads_hand (s : State) (q : Queue) (a : Nat) (op : MemOp) :
    (s.hand q a op).reads = s.reads := rfl

@[simp] theorem State.pending_writeDone (s : State) (t : PortTag) :
    (s.writeDone t).pending = s.pending := rfl

@[simp] theorem State.timebase_writeDone (s : State) (t : PortTag) :
    (s.writeDone t).timebase = s.timebase := rfl

@[simp] theorem State.strapBase_writeDone (s : State) (t : PortTag) :
    (s.writeDone t).strapBase = s.strapBase := rfl

@[simp] theorem State.strapMhz_writeDone (s : State) (t : PortTag) :
    (s.writeDone t).strapMhz = s.strapMhz := rfl

@[simp] theorem State.cams_writeDone (s : State) (t : PortTag) :
    (s.writeDone t).cams = s.cams := rfl

@[simp] theorem State.lines_writeDone (s : State) (t : PortTag) :
    (s.writeDone t).lines = s.lines := rfl

@[simp] theorem State.screens_writeDone (s : State) (t : PortTag) :
    (s.writeDone t).screens = s.screens := rfl

@[simp] theorem State.fetchWait_writeDone (s : State) (t : PortTag) :
    (s.writeDone t).fetchWait = s.fetchWait := rfl

@[simp] theorem State.nextEntry_writeDone (s : State) (t : PortTag) :
    (s.writeDone t).nextEntry = s.nextEntry := rfl

@[simp] theorem State.engine_writeDone (s : State) (t : PortTag) :
    (s.writeDone t).engine = s.engine := rfl

@[simp] theorem State.part_writeDone (s : State) (t : PortTag) :
    (s.writeDone t).part = s.part := rfl

@[simp] theorem State.ring_writeDone (s : State) (t : PortTag) :
    (s.writeDone t).ring = s.ring := rfl

@[simp] theorem State.attention_writeDone (s : State) (t : PortTag) :
    (s.writeDone t).attention = s.attention := rfl

@[simp] theorem State.words_writeDone (s : State) (t : PortTag) :
    (s.writeDone t).words = s.words := rfl

@[simp] theorem State.liveReads_writeDone (s : State) (t : PortTag) :
    (s.writeDone t).liveReads = s.liveReads := rfl

@[simp] theorem State.arb_writeDone (s : State) (t : PortTag) :
    (s.writeDone t).arb = s.arb := rfl

@[simp] theorem State.dram_writeDone (s : State) (t : PortTag) :
    (s.writeDone t).dram = s.dram := rfl

@[simp] theorem State.reads_writeDone (s : State) (t : PortTag) :
    (s.writeDone t).reads = s.reads := rfl

@[simp] theorem State.pending_answerRead (s : State) (t : PortTag) (d : Beat) :
    (s.answerRead t d).pending = s.pending := rfl

@[simp] theorem State.timebase_answerRead (s : State) (t : PortTag) (d : Beat) :
    (s.answerRead t d).timebase = s.timebase := rfl

@[simp] theorem State.strapBase_answerRead (s : State) (t : PortTag) (d : Beat) :
    (s.answerRead t d).strapBase = s.strapBase := rfl

@[simp] theorem State.strapMhz_answerRead (s : State) (t : PortTag) (d : Beat) :
    (s.answerRead t d).strapMhz = s.strapMhz := rfl

@[simp] theorem State.cams_answerRead (s : State) (t : PortTag) (d : Beat) :
    (s.answerRead t d).cams = s.cams := rfl

@[simp] theorem State.lines_answerRead (s : State) (t : PortTag) (d : Beat) :
    (s.answerRead t d).lines = s.lines := rfl

@[simp] theorem State.screens_answerRead (s : State) (t : PortTag) (d : Beat) :
    (s.answerRead t d).screens = s.screens := rfl

@[simp] theorem State.fetchWait_answerRead (s : State) (t : PortTag) (d : Beat) :
    (s.answerRead t d).fetchWait = s.fetchWait := rfl

@[simp] theorem State.nextEntry_answerRead (s : State) (t : PortTag) (d : Beat) :
    (s.answerRead t d).nextEntry = s.nextEntry := rfl

@[simp] theorem State.engine_answerRead (s : State) (t : PortTag) (d : Beat) :
    (s.answerRead t d).engine = s.engine := rfl

@[simp] theorem State.part_answerRead (s : State) (t : PortTag) (d : Beat) :
    (s.answerRead t d).part = s.part := rfl

@[simp] theorem State.ring_answerRead (s : State) (t : PortTag) (d : Beat) :
    (s.answerRead t d).ring = s.ring := rfl

@[simp] theorem State.attention_answerRead (s : State) (t : PortTag) (d : Beat) :
    (s.answerRead t d).attention = s.attention := rfl

@[simp] theorem State.words_answerRead (s : State) (t : PortTag) (d : Beat) :
    (s.answerRead t d).words = s.words := rfl

@[simp] theorem State.liveReads_answerRead (s : State) (t : PortTag) (d : Beat) :
    (s.answerRead t d).liveReads = s.liveReads := rfl

@[simp] theorem State.arb_answerRead (s : State) (t : PortTag) (d : Beat) :
    (s.answerRead t d).arb = s.arb := rfl

@[simp] theorem State.dram_answerRead (s : State) (t : PortTag) (d : Beat) :
    (s.answerRead t d).dram = s.dram := rfl

@[simp] theorem State.reads_answerRead (s : State) (t : PortTag) (d : Beat) :
    (s.answerRead t d).reads = s.reads := rfl

@[simp] theorem State.pending_expectRead (s : State) (t : PortTag) :
    (s.expectRead t).pending = s.pending := rfl

@[simp] theorem State.timebase_expectRead (s : State) (t : PortTag) :
    (s.expectRead t).timebase = s.timebase := rfl

@[simp] theorem State.strapBase_expectRead (s : State) (t : PortTag) :
    (s.expectRead t).strapBase = s.strapBase := rfl

@[simp] theorem State.strapMhz_expectRead (s : State) (t : PortTag) :
    (s.expectRead t).strapMhz = s.strapMhz := rfl

@[simp] theorem State.cams_expectRead (s : State) (t : PortTag) :
    (s.expectRead t).cams = s.cams := rfl

@[simp] theorem State.lines_expectRead (s : State) (t : PortTag) :
    (s.expectRead t).lines = s.lines := rfl

@[simp] theorem State.screens_expectRead (s : State) (t : PortTag) :
    (s.expectRead t).screens = s.screens := rfl

@[simp] theorem State.fetchWait_expectRead (s : State) (t : PortTag) :
    (s.expectRead t).fetchWait = s.fetchWait := rfl

@[simp] theorem State.nextEntry_expectRead (s : State) (t : PortTag) :
    (s.expectRead t).nextEntry = s.nextEntry := rfl

@[simp] theorem State.engine_expectRead (s : State) (t : PortTag) :
    (s.expectRead t).engine = s.engine := rfl

@[simp] theorem State.part_expectRead (s : State) (t : PortTag) :
    (s.expectRead t).part = s.part := rfl

@[simp] theorem State.ring_expectRead (s : State) (t : PortTag) :
    (s.expectRead t).ring = s.ring := rfl

@[simp] theorem State.attention_expectRead (s : State) (t : PortTag) :
    (s.expectRead t).attention = s.attention := rfl

@[simp] theorem State.words_expectRead (s : State) (t : PortTag) :
    (s.expectRead t).words = s.words := rfl

@[simp] theorem State.liveReads_expectRead (s : State) (t : PortTag) :
    (s.expectRead t).liveReads = s.liveReads := rfl

@[simp] theorem State.arb_expectRead (s : State) (t : PortTag) :
    (s.expectRead t).arb = s.arb := rfl

@[simp] theorem State.dram_expectRead (s : State) (t : PortTag) :
    (s.expectRead t).dram = s.dram := rfl

@[simp] theorem State.reads_expectRead (s : State) (t : PortTag) :
    (s.expectRead t).reads = s.reads := rfl

@[simp] theorem State.pending_formReadWith (s : State) (r : RespRef) (d : Beat) (f : SideFlags) :
    (s.formReadWith r d f).pending = s.pending := rfl

@[simp] theorem State.timebase_formReadWith (s : State) (r : RespRef) (d : Beat) (f : SideFlags) :
    (s.formReadWith r d f).timebase = s.timebase := rfl

@[simp] theorem State.strapBase_formReadWith (s : State) (r : RespRef) (d : Beat) (f : SideFlags) :
    (s.formReadWith r d f).strapBase = s.strapBase := rfl

@[simp] theorem State.strapMhz_formReadWith (s : State) (r : RespRef) (d : Beat) (f : SideFlags) :
    (s.formReadWith r d f).strapMhz = s.strapMhz := rfl

@[simp] theorem State.cams_formReadWith (s : State) (r : RespRef) (d : Beat) (f : SideFlags) :
    (s.formReadWith r d f).cams = s.cams := rfl

@[simp] theorem State.lines_formReadWith (s : State) (r : RespRef) (d : Beat) (f : SideFlags) :
    (s.formReadWith r d f).lines = s.lines := rfl

@[simp] theorem State.screens_formReadWith (s : State) (r : RespRef) (d : Beat) (f : SideFlags) :
    (s.formReadWith r d f).screens = s.screens := rfl

@[simp] theorem State.fetchWait_formReadWith (s : State) (r : RespRef) (d : Beat) (f : SideFlags) :
    (s.formReadWith r d f).fetchWait = s.fetchWait := rfl

@[simp] theorem State.nextEntry_formReadWith (s : State) (r : RespRef) (d : Beat) (f : SideFlags) :
    (s.formReadWith r d f).nextEntry = s.nextEntry := rfl

@[simp] theorem State.engine_formReadWith (s : State) (r : RespRef) (d : Beat) (f : SideFlags) :
    (s.formReadWith r d f).engine = s.engine := rfl

@[simp] theorem State.part_formReadWith (s : State) (r : RespRef) (d : Beat) (f : SideFlags) :
    (s.formReadWith r d f).part = s.part := rfl

@[simp] theorem State.ring_formReadWith (s : State) (r : RespRef) (d : Beat) (f : SideFlags) :
    (s.formReadWith r d f).ring = s.ring := rfl

@[simp] theorem State.attention_formReadWith (s : State) (r : RespRef) (d : Beat) (f : SideFlags) :
    (s.formReadWith r d f).attention = s.attention := rfl

@[simp] theorem State.words_formReadWith (s : State) (r : RespRef) (d : Beat) (f : SideFlags) :
    (s.formReadWith r d f).words = s.words := rfl

@[simp] theorem State.liveReads_formReadWith (s : State) (r : RespRef) (d : Beat) (f : SideFlags) :
    (s.formReadWith r d f).liveReads = s.liveReads := rfl

@[simp] theorem State.arb_formReadWith (s : State) (r : RespRef) (d : Beat) (f : SideFlags) :
    (s.formReadWith r d f).arb = s.arb := rfl

@[simp] theorem State.dram_formReadWith (s : State) (r : RespRef) (d : Beat) (f : SideFlags) :
    (s.formReadWith r d f).dram = s.dram := rfl

@[simp] theorem State.reads_formReadWith (s : State) (r : RespRef) (d : Beat) (f : SideFlags) :
    (s.formReadWith r d f).reads = s.reads := rfl

@[simp] theorem State.pending_formRead (s : State) (r : RespRef) (d : Beat) :
    (s.formRead r d).pending = s.pending := rfl

@[simp] theorem State.timebase_formRead (s : State) (r : RespRef) (d : Beat) :
    (s.formRead r d).timebase = s.timebase := rfl

@[simp] theorem State.strapBase_formRead (s : State) (r : RespRef) (d : Beat) :
    (s.formRead r d).strapBase = s.strapBase := rfl

@[simp] theorem State.strapMhz_formRead (s : State) (r : RespRef) (d : Beat) :
    (s.formRead r d).strapMhz = s.strapMhz := rfl

@[simp] theorem State.cams_formRead (s : State) (r : RespRef) (d : Beat) :
    (s.formRead r d).cams = s.cams := rfl

@[simp] theorem State.lines_formRead (s : State) (r : RespRef) (d : Beat) :
    (s.formRead r d).lines = s.lines := rfl

@[simp] theorem State.screens_formRead (s : State) (r : RespRef) (d : Beat) :
    (s.formRead r d).screens = s.screens := rfl

@[simp] theorem State.fetchWait_formRead (s : State) (r : RespRef) (d : Beat) :
    (s.formRead r d).fetchWait = s.fetchWait := rfl

@[simp] theorem State.nextEntry_formRead (s : State) (r : RespRef) (d : Beat) :
    (s.formRead r d).nextEntry = s.nextEntry := rfl

@[simp] theorem State.engine_formRead (s : State) (r : RespRef) (d : Beat) :
    (s.formRead r d).engine = s.engine := rfl

@[simp] theorem State.part_formRead (s : State) (r : RespRef) (d : Beat) :
    (s.formRead r d).part = s.part := rfl

@[simp] theorem State.ring_formRead (s : State) (r : RespRef) (d : Beat) :
    (s.formRead r d).ring = s.ring := rfl

@[simp] theorem State.attention_formRead (s : State) (r : RespRef) (d : Beat) :
    (s.formRead r d).attention = s.attention := rfl

@[simp] theorem State.words_formRead (s : State) (r : RespRef) (d : Beat) :
    (s.formRead r d).words = s.words := rfl

@[simp] theorem State.liveReads_formRead (s : State) (r : RespRef) (d : Beat) :
    (s.formRead r d).liveReads = s.liveReads := rfl

@[simp] theorem State.arb_formRead (s : State) (r : RespRef) (d : Beat) :
    (s.formRead r d).arb = s.arb := rfl

@[simp] theorem State.dram_formRead (s : State) (r : RespRef) (d : Beat) :
    (s.formRead r d).dram = s.dram := rfl

@[simp] theorem State.reads_formRead (s : State) (r : RespRef) (d : Beat) :
    (s.formRead r d).reads = s.reads := rfl

@[simp] theorem State.pending_popRead (s : State) :
    (s.popRead).pending = s.pending := rfl

@[simp] theorem State.timebase_popRead (s : State) :
    (s.popRead).timebase = s.timebase := rfl

@[simp] theorem State.strapBase_popRead (s : State) :
    (s.popRead).strapBase = s.strapBase := rfl

@[simp] theorem State.strapMhz_popRead (s : State) :
    (s.popRead).strapMhz = s.strapMhz := rfl

@[simp] theorem State.cams_popRead (s : State) :
    (s.popRead).cams = s.cams := rfl

@[simp] theorem State.lines_popRead (s : State) :
    (s.popRead).lines = s.lines := rfl

@[simp] theorem State.screens_popRead (s : State) :
    (s.popRead).screens = s.screens := rfl

@[simp] theorem State.fetchWait_popRead (s : State) :
    (s.popRead).fetchWait = s.fetchWait := rfl

@[simp] theorem State.nextEntry_popRead (s : State) :
    (s.popRead).nextEntry = s.nextEntry := rfl

@[simp] theorem State.engine_popRead (s : State) :
    (s.popRead).engine = s.engine := rfl

@[simp] theorem State.part_popRead (s : State) :
    (s.popRead).part = s.part := rfl

@[simp] theorem State.ring_popRead (s : State) :
    (s.popRead).ring = s.ring := rfl

@[simp] theorem State.attention_popRead (s : State) :
    (s.popRead).attention = s.attention := rfl

@[simp] theorem State.words_popRead (s : State) :
    (s.popRead).words = s.words := rfl

@[simp] theorem State.liveReads_popRead (s : State) :
    (s.popRead).liveReads = s.liveReads := rfl

@[simp] theorem State.port_popRead (s : State) :
    (s.popRead).port = s.port := rfl

@[simp] theorem State.arb_popRead (s : State) :
    (s.popRead).arb = s.arb := rfl

@[simp] theorem State.dram_popRead (s : State) :
    (s.popRead).dram = s.dram := rfl

@[simp] theorem State.pending_writeConsumer (s : State) (v : Byte) :
    (s.writeConsumer v).pending = s.pending := rfl

@[simp] theorem State.timebase_writeConsumer (s : State) (v : Byte) :
    (s.writeConsumer v).timebase = s.timebase := rfl

@[simp] theorem State.strapBase_writeConsumer (s : State) (v : Byte) :
    (s.writeConsumer v).strapBase = s.strapBase := rfl

@[simp] theorem State.strapMhz_writeConsumer (s : State) (v : Byte) :
    (s.writeConsumer v).strapMhz = s.strapMhz := rfl

@[simp] theorem State.cams_writeConsumer (s : State) (v : Byte) :
    (s.writeConsumer v).cams = s.cams := rfl

@[simp] theorem State.lines_writeConsumer (s : State) (v : Byte) :
    (s.writeConsumer v).lines = s.lines := rfl

@[simp] theorem State.screens_writeConsumer (s : State) (v : Byte) :
    (s.writeConsumer v).screens = s.screens := rfl

@[simp] theorem State.fetchWait_writeConsumer (s : State) (v : Byte) :
    (s.writeConsumer v).fetchWait = s.fetchWait := rfl

@[simp] theorem State.nextEntry_writeConsumer (s : State) (v : Byte) :
    (s.writeConsumer v).nextEntry = s.nextEntry := rfl

@[simp] theorem State.engine_writeConsumer (s : State) (v : Byte) :
    (s.writeConsumer v).engine = s.engine := rfl

@[simp] theorem State.part_writeConsumer (s : State) (v : Byte) :
    (s.writeConsumer v).part = s.part := rfl

@[simp] theorem State.attention_writeConsumer (s : State) (v : Byte) :
    (s.writeConsumer v).attention = s.attention := rfl

@[simp] theorem State.words_writeConsumer (s : State) (v : Byte) :
    (s.writeConsumer v).words = s.words := rfl

@[simp] theorem State.liveReads_writeConsumer (s : State) (v : Byte) :
    (s.writeConsumer v).liveReads = s.liveReads := rfl

@[simp] theorem State.port_writeConsumer (s : State) (v : Byte) :
    (s.writeConsumer v).port = s.port := rfl

@[simp] theorem State.arb_writeConsumer (s : State) (v : Byte) :
    (s.writeConsumer v).arb = s.arb := rfl

@[simp] theorem State.dram_writeConsumer (s : State) (v : Byte) :
    (s.writeConsumer v).dram = s.dram := rfl

@[simp] theorem State.reads_writeConsumer (s : State) (v : Byte) :
    (s.writeConsumer v).reads = s.reads := rfl

@[simp] theorem State.pending_setMailbox (s : State) (o : Owner) (m : Mailbox) :
    (s.setMailbox o m).pending = s.pending := by cases o <;> rfl

@[simp] theorem State.timebase_setMailbox (s : State) (o : Owner) (m : Mailbox) :
    (s.setMailbox o m).timebase = s.timebase := by cases o <;> rfl

@[simp] theorem State.strapBase_setMailbox (s : State) (o : Owner) (m : Mailbox) :
    (s.setMailbox o m).strapBase = s.strapBase := by cases o <;> rfl

@[simp] theorem State.strapMhz_setMailbox (s : State) (o : Owner) (m : Mailbox) :
    (s.setMailbox o m).strapMhz = s.strapMhz := by cases o <;> rfl

@[simp] theorem State.cams_setMailbox (s : State) (o : Owner) (m : Mailbox) :
    (s.setMailbox o m).cams = s.cams := by cases o <;> rfl

@[simp] theorem State.lines_setMailbox (s : State) (o : Owner) (m : Mailbox) :
    (s.setMailbox o m).lines = s.lines := by cases o <;> rfl

@[simp] theorem State.screens_setMailbox (s : State) (o : Owner) (m : Mailbox) :
    (s.setMailbox o m).screens = s.screens := by cases o <;> rfl

@[simp] theorem State.fetchWait_setMailbox (s : State) (o : Owner) (m : Mailbox) :
    (s.setMailbox o m).fetchWait = s.fetchWait := by cases o <;> rfl

@[simp] theorem State.nextEntry_setMailbox (s : State) (o : Owner) (m : Mailbox) :
    (s.setMailbox o m).nextEntry = s.nextEntry := by cases o <;> rfl

@[simp] theorem State.engine_setMailbox (s : State) (o : Owner) (m : Mailbox) :
    (s.setMailbox o m).engine = s.engine := by cases o <;> rfl

@[simp] theorem State.part_setMailbox (s : State) (o : Owner) (m : Mailbox) :
    (s.setMailbox o m).part = s.part := by cases o <;> rfl

@[simp] theorem State.ring_setMailbox (s : State) (o : Owner) (m : Mailbox) :
    (s.setMailbox o m).ring = s.ring := by cases o <;> rfl

@[simp] theorem State.attention_setMailbox (s : State) (o : Owner) (m : Mailbox) :
    (s.setMailbox o m).attention = s.attention := by cases o <;> rfl

@[simp] theorem State.liveReads_setMailbox (s : State) (o : Owner) (m : Mailbox) :
    (s.setMailbox o m).liveReads = s.liveReads := by cases o <;> rfl

@[simp] theorem State.port_setMailbox (s : State) (o : Owner) (m : Mailbox) :
    (s.setMailbox o m).port = s.port := by cases o <;> rfl

@[simp] theorem State.arb_setMailbox (s : State) (o : Owner) (m : Mailbox) :
    (s.setMailbox o m).arb = s.arb := by cases o <;> rfl

@[simp] theorem State.dram_setMailbox (s : State) (o : Owner) (m : Mailbox) :
    (s.setMailbox o m).dram = s.dram := by cases o <;> rfl

@[simp] theorem State.reads_setMailbox (s : State) (o : Owner) (m : Mailbox) :
    (s.setMailbox o m).reads = s.reads := by cases o <;> rfl

@[simp] theorem State.engine_setEngine (s : State) (e : Engine) : (s.setEngine e).engine = e := rfl

@[simp] theorem State.screen_setCam (s : State) (c : CamId) (x : Camera) (i : ScrId) :
    (s.setCam c x).screen i = s.screen i := rfl

@[simp] theorem State.line_setCam (s : State) (c : CamId) (x : Camera) (i : LineId) :
    (s.setCam c x).line i = s.line i := rfl

@[simp] theorem State.mailbox_setCam (s : State) (c : CamId) (x : Camera) (i : Owner) :
    (s.setCam c x).mailbox i = s.mailbox i := by cases i <;> rfl

@[simp] theorem State.queue_setCam (s : State) (c : CamId) (x : Camera) (i : Queue) :
    (s.setCam c x).queue i = s.queue i := rfl

@[simp] theorem State.room_setCam (s : State) (c : CamId) (x : Camera) (i : Queue) :
    (s.setCam c x).room i = s.room i := rfl

@[simp] theorem State.cam_setScreen (s : State) (c : ScrId) (x : Screen) (i : CamId) :
    (s.setScreen c x).cam i = s.cam i := rfl

@[simp] theorem State.line_setScreen (s : State) (c : ScrId) (x : Screen) (i : LineId) :
    (s.setScreen c x).line i = s.line i := rfl

@[simp] theorem State.mailbox_setScreen (s : State) (c : ScrId) (x : Screen) (i : Owner) :
    (s.setScreen c x).mailbox i = s.mailbox i := by cases i <;> rfl

@[simp] theorem State.queue_setScreen (s : State) (c : ScrId) (x : Screen) (i : Queue) :
    (s.setScreen c x).queue i = s.queue i := rfl

@[simp] theorem State.room_setScreen (s : State) (c : ScrId) (x : Screen) (i : Queue) :
    (s.setScreen c x).room i = s.room i := rfl

@[simp] theorem State.cam_setLine (s : State) (c : LineId) (x : Line) (i : CamId) :
    (s.setLine c x).cam i = s.cam i := rfl

@[simp] theorem State.screen_setLine (s : State) (c : LineId) (x : Line) (i : ScrId) :
    (s.setLine c x).screen i = s.screen i := rfl

@[simp] theorem State.mailbox_setLine (s : State) (c : LineId) (x : Line) (i : Owner) :
    (s.setLine c x).mailbox i = s.mailbox i := by cases i <;> rfl

@[simp] theorem State.queue_setLine (s : State) (c : LineId) (x : Line) (i : Queue) :
    (s.setLine c x).queue i = s.queue i := rfl

@[simp] theorem State.room_setLine (s : State) (c : LineId) (x : Line) (i : Queue) :
    (s.setLine c x).room i = s.room i := rfl

@[simp] theorem State.cam_setEngine (s : State) (e : Engine) (i : CamId) :
    (s.setEngine e).cam i = s.cam i := rfl

@[simp] theorem State.screen_setEngine (s : State) (e : Engine) (i : ScrId) :
    (s.setEngine e).screen i = s.screen i := rfl

@[simp] theorem State.line_setEngine (s : State) (e : Engine) (i : LineId) :
    (s.setEngine e).line i = s.line i := rfl

@[simp] theorem State.mailbox_setEngine (s : State) (e : Engine) (i : Owner) :
    (s.setEngine e).mailbox i = s.mailbox i := by cases i <;> rfl

@[simp] theorem State.queue_setEngine (s : State) (e : Engine) (i : Queue) :
    (s.setEngine e).queue i = s.queue i := rfl

@[simp] theorem State.room_setEngine (s : State) (e : Engine) (i : Queue) :
    (s.setEngine e).room i = s.room i := rfl

@[simp] theorem State.cam_hand (s : State) (q : Queue) (a : Nat) (op : MemOp) (i : CamId) :
    (s.hand q a op).cam i = s.cam i := rfl

@[simp] theorem State.screen_hand (s : State) (q : Queue) (a : Nat) (op : MemOp) (i : ScrId) :
    (s.hand q a op).screen i = s.screen i := rfl

@[simp] theorem State.line_hand (s : State) (q : Queue) (a : Nat) (op : MemOp) (i : LineId) :
    (s.hand q a op).line i = s.line i := rfl

@[simp] theorem State.mailbox_hand (s : State) (q : Queue) (a : Nat) (op : MemOp) (i : Owner) :
    (s.hand q a op).mailbox i = s.mailbox i := by cases i <;> rfl

@[simp] theorem State.cam_writeDone (s : State) (t : PortTag) (i : CamId) :
    (s.writeDone t).cam i = s.cam i := rfl

@[simp] theorem State.screen_writeDone (s : State) (t : PortTag) (i : ScrId) :
    (s.writeDone t).screen i = s.screen i := rfl

@[simp] theorem State.line_writeDone (s : State) (t : PortTag) (i : LineId) :
    (s.writeDone t).line i = s.line i := rfl

@[simp] theorem State.mailbox_writeDone (s : State) (t : PortTag) (i : Owner) :
    (s.writeDone t).mailbox i = s.mailbox i := by cases i <;> rfl

@[simp] theorem State.queue_writeDone (s : State) (t : PortTag) (i : Queue) :
    (s.writeDone t).queue i = s.queue i := rfl

@[simp] theorem State.room_writeDone (s : State) (t : PortTag) (i : Queue) :
    (s.writeDone t).room i = s.room i := rfl

@[simp] theorem State.cam_answerRead (s : State) (t : PortTag) (d : Beat) (i : CamId) :
    (s.answerRead t d).cam i = s.cam i := rfl

@[simp] theorem State.screen_answerRead (s : State) (t : PortTag) (d : Beat) (i : ScrId) :
    (s.answerRead t d).screen i = s.screen i := rfl

@[simp] theorem State.line_answerRead (s : State) (t : PortTag) (d : Beat) (i : LineId) :
    (s.answerRead t d).line i = s.line i := rfl

@[simp] theorem State.mailbox_answerRead (s : State) (t : PortTag) (d : Beat) (i : Owner) :
    (s.answerRead t d).mailbox i = s.mailbox i := by cases i <;> rfl

@[simp] theorem State.queue_answerRead (s : State) (t : PortTag) (d : Beat) (i : Queue) :
    (s.answerRead t d).queue i = s.queue i := rfl

@[simp] theorem State.room_answerRead (s : State) (t : PortTag) (d : Beat) (i : Queue) :
    (s.answerRead t d).room i = s.room i := rfl

@[simp] theorem State.cam_expectRead (s : State) (t : PortTag) (i : CamId) :
    (s.expectRead t).cam i = s.cam i := rfl

@[simp] theorem State.screen_expectRead (s : State) (t : PortTag) (i : ScrId) :
    (s.expectRead t).screen i = s.screen i := rfl

@[simp] theorem State.line_expectRead (s : State) (t : PortTag) (i : LineId) :
    (s.expectRead t).line i = s.line i := rfl

@[simp] theorem State.mailbox_expectRead (s : State) (t : PortTag) (i : Owner) :
    (s.expectRead t).mailbox i = s.mailbox i := by cases i <;> rfl

@[simp] theorem State.queue_expectRead (s : State) (t : PortTag) (i : Queue) :
    (s.expectRead t).queue i = s.queue i := rfl

@[simp] theorem State.room_expectRead (s : State) (t : PortTag) (i : Queue) :
    (s.expectRead t).room i = s.room i := rfl

@[simp] theorem State.cam_formReadWith (s : State) (r : RespRef) (d : Beat) (f : SideFlags) (i : CamId) :
    (s.formReadWith r d f).cam i = s.cam i := rfl

@[simp] theorem State.screen_formReadWith (s : State) (r : RespRef) (d : Beat) (f : SideFlags) (i : ScrId) :
    (s.formReadWith r d f).screen i = s.screen i := rfl

@[simp] theorem State.line_formReadWith (s : State) (r : RespRef) (d : Beat) (f : SideFlags) (i : LineId) :
    (s.formReadWith r d f).line i = s.line i := rfl

@[simp] theorem State.mailbox_formReadWith (s : State) (r : RespRef) (d : Beat) (f : SideFlags) (i : Owner) :
    (s.formReadWith r d f).mailbox i = s.mailbox i := by cases i <;> rfl

@[simp] theorem State.queue_formReadWith (s : State) (r : RespRef) (d : Beat) (f : SideFlags) (i : Queue) :
    (s.formReadWith r d f).queue i = s.queue i := rfl

@[simp] theorem State.room_formReadWith (s : State) (r : RespRef) (d : Beat) (f : SideFlags) (i : Queue) :
    (s.formReadWith r d f).room i = s.room i := rfl

@[simp] theorem State.cam_formRead (s : State) (r : RespRef) (d : Beat) (i : CamId) :
    (s.formRead r d).cam i = s.cam i := rfl

@[simp] theorem State.screen_formRead (s : State) (r : RespRef) (d : Beat) (i : ScrId) :
    (s.formRead r d).screen i = s.screen i := rfl

@[simp] theorem State.line_formRead (s : State) (r : RespRef) (d : Beat) (i : LineId) :
    (s.formRead r d).line i = s.line i := rfl

@[simp] theorem State.mailbox_formRead (s : State) (r : RespRef) (d : Beat) (i : Owner) :
    (s.formRead r d).mailbox i = s.mailbox i := by cases i <;> rfl

@[simp] theorem State.queue_formRead (s : State) (r : RespRef) (d : Beat) (i : Queue) :
    (s.formRead r d).queue i = s.queue i := rfl

@[simp] theorem State.room_formRead (s : State) (r : RespRef) (d : Beat) (i : Queue) :
    (s.formRead r d).room i = s.room i := rfl

@[simp] theorem State.cam_popRead (s : State) (i : CamId) :
    (s.popRead).cam i = s.cam i := rfl

@[simp] theorem State.screen_popRead (s : State) (i : ScrId) :
    (s.popRead).screen i = s.screen i := rfl

@[simp] theorem State.line_popRead (s : State) (i : LineId) :
    (s.popRead).line i = s.line i := rfl

@[simp] theorem State.mailbox_popRead (s : State) (i : Owner) :
    (s.popRead).mailbox i = s.mailbox i := by cases i <;> rfl

@[simp] theorem State.queue_popRead (s : State) (i : Queue) :
    (s.popRead).queue i = s.queue i := rfl

@[simp] theorem State.room_popRead (s : State) (i : Queue) :
    (s.popRead).room i = s.room i := rfl

@[simp] theorem State.cam_writeConsumer (s : State) (v : Byte) (i : CamId) :
    (s.writeConsumer v).cam i = s.cam i := rfl

@[simp] theorem State.screen_writeConsumer (s : State) (v : Byte) (i : ScrId) :
    (s.writeConsumer v).screen i = s.screen i := rfl

@[simp] theorem State.line_writeConsumer (s : State) (v : Byte) (i : LineId) :
    (s.writeConsumer v).line i = s.line i := rfl

@[simp] theorem State.mailbox_writeConsumer (s : State) (v : Byte) (i : Owner) :
    (s.writeConsumer v).mailbox i = s.mailbox i := by cases i <;> rfl

@[simp] theorem State.queue_writeConsumer (s : State) (v : Byte) (i : Queue) :
    (s.writeConsumer v).queue i = s.queue i := rfl

@[simp] theorem State.room_writeConsumer (s : State) (v : Byte) (i : Queue) :
    (s.writeConsumer v).room i = s.room i := rfl

@[simp] theorem State.cam_setMailbox (s : State) (o : Owner) (m : Mailbox) (i : CamId) :
    (s.setMailbox o m).cam i = s.cam i := by cases o <;> rfl

@[simp] theorem State.screen_setMailbox (s : State) (o : Owner) (m : Mailbox) (i : ScrId) :
    (s.setMailbox o m).screen i = s.screen i := by cases o <;> rfl

@[simp] theorem State.line_setMailbox (s : State) (o : Owner) (m : Mailbox) (i : LineId) :
    (s.setMailbox o m).line i = s.line i := by cases o <;> rfl

@[simp] theorem State.queue_setMailbox (s : State) (o : Owner) (m : Mailbox) (i : Queue) :
    (s.setMailbox o m).queue i = s.queue i := by cases o <;> rfl

@[simp] theorem State.room_setMailbox (s : State) (o : Owner) (m : Mailbox) (i : Queue) :
    (s.setMailbox o m).room i = s.room i := by cases o <;> rfl

end Sys2Proof.Machine
end

