-- ==== Sys2Proof/Laws/Frame.lean ====
section
/-!
SUPPORT. What no operation of the blocks changes: the commands that wait, the Timebase, the straps, DRAM
and the reads in flight. Only power-on reset, the tick, a grant and a return reach them.
-/
namespace Sys2Proof.Machine

@[simp] theorem State.outer_setCam (s : State) (c : CamId) (x : Camera) :
    (s.setCam c x).outer = s.outer := rfl

@[simp] theorem State.outer_setScreen (s : State) (sc : ScrId) (x : Screen) :
    (s.setScreen sc x).outer = s.outer := rfl

@[simp] theorem State.outer_setLine (s : State) (l : LineId) (x : Line) :
    (s.setLine l x).outer = s.outer := rfl

@[simp] theorem State.outer_setEngine (s : State) (e : Engine) :
    (s.setEngine e).outer = s.outer := rfl

@[simp] theorem State.outer_hand (s : State) (q : Queue) (a : Nat) (op : MemOp) :
    (s.hand q a op).outer = s.outer := rfl

@[simp] theorem State.outer_writeDone (s : State) (t : PortTag) :
    (s.writeDone t).outer = s.outer := rfl

@[simp] theorem State.outer_answerRead (s : State) (t : PortTag) (d : Beat) :
    (s.answerRead t d).outer = s.outer := rfl

@[simp] theorem State.outer_expectRead (s : State) (t : PortTag) :
    (s.expectRead t).outer = s.outer := rfl

@[simp] theorem State.outer_formReadWith (s : State) (r : RespRef) (d : Beat) (f : SideFlags) :
    (s.formReadWith r d f).outer = s.outer := rfl

@[simp] theorem State.outer_formRead (s : State) (r : RespRef) (d : Beat) :
    (s.formRead r d).outer = s.outer := rfl

@[simp] theorem State.outer_writeConsumer (s : State) (v : Byte) :
    (s.writeConsumer v).outer = s.outer := rfl

@[simp] theorem State.outer_setMailbox (s : State) (o : Owner) (m : Mailbox) :
    (s.setMailbox o m).outer = s.outer := by cases o <;> rfl

@[simp] theorem State.outer_handRecord (s : State) (r : Record) :
    (s.handRecord r).outer = s.outer := rfl

@[simp] theorem State.outer_handStaged (s : State) (xs : List Record) :
    (s.handStaged xs).outer = s.outer := by
  induction xs generalizing s with
  | nil => rfl
  | cons x rest ih =>
    rw [State.handStaged]
    split
    · simp [ih]
    · rfl

@[simp] theorem State.outer_report (s : State) (k : Kind) (src : Nat) (d0 d1 : BitVec 32) :
    (s.report k src d0 d1).outer = s.outer := by
  unfold State.report
  dsimp only
  split
  · rfl
  · rw [State.outer_handStaged]; rfl

@[simp] theorem State.outer_answer (s : State) (o : Owner) (r : Result) :
    (s.answer o r).outer = s.outer := by
  simp [State.answer]

@[simp] theorem State.outer_answerOpen (s : State) (o : Owner) :
    (s.answerOpen o).outer = s.outer := by
  simp [State.answerOpen]

@[simp] theorem State.outer_answerEnd (s : State) (o : Owner) (r : Result) :
    (s.answerEnd o r).outer = s.outer := by
  simp [State.answerEnd]

@[simp] theorem State.outer_addTag (s : State) (c : CamId) (j t : Nat) :
    (s.addTag c j t).outer = s.outer := rfl

@[simp] theorem State.outer_removeTag (s : State) (c : CamId) (j t : Nat) :
    (s.removeTag c j t).outer = s.outer := rfl

@[simp] theorem State.outer_swapTag (s : State) (c : CamId) (j t u : Nat) :
    (s.swapTag c j t u).outer = s.outer := rfl

@[simp] theorem State.outer_handFetch (s : State) (f : Fetch) :
    (s.handFetch f).outer = s.outer := rfl

@[simp] theorem State.outer_handFetches (s : State) (xs : List Fetch) :
    (s.handFetches xs).outer = s.outer := by
  induction xs generalizing s with
  | nil => rfl
  | cons x rest ih =>
    rw [State.handFetches]
    split
    · simp [ih]
    · rfl

@[simp] theorem State.outer_composeEntry (s : State) (sc : ScrId) (hs : HoldSet) (e : Entry) :
    (s.composeEntry sc hs e).outer = s.outer := by
  simp [State.composeEntry, apply_ite State.outer]

@[simp] theorem State.outer_composeEntries (s : State) (sc : ScrId) (hs : HoldSet)
    (xs : List Entry) :
    (s.composeEntries sc hs xs).outer = s.outer := by
  induction xs generalizing s with
  | nil => rfl
  | cons x rest ih =>
    rw [State.composeEntries]
    simp [ih]

@[simp] theorem State.outer_composeWaiting (s : State) (sc : ScrId) :
    (s.composeWaiting sc).outer = s.outer := by
  unfold State.composeWaiting
  dsimp only
  split
  · rw [State.outer_composeEntries]
  · rfl

@[simp] theorem State.outer_addEntry (s : State) (sc : ScrId) (p : PortTag) (o : Nat) :
    (s.addEntry sc p o).outer = s.outer := rfl

@[simp] theorem State.outer_addTags (s : State) (xs : List (CamId × Nat × Nat)) :
    (s.addTags xs).outer = s.outer := by
  induction xs generalizing s with
  | nil => rfl
  | cons x rest ih =>
    rw [State.addTags]
    simp [ih]

@[simp] theorem State.outer_removeTags (s : State) (xs : List (CamId × Nat × Nat)) :
    (s.removeTags xs).outer = s.outer := by
  induction xs generalizing s with
  | nil => rfl
  | cons x rest ih =>
    rw [State.removeTags]
    simp [ih]

@[simp] theorem State.outer_retireTags (s : State) (xs : List (CamId × Nat × Nat)) :
    (s.retireTags xs).outer = s.outer := by
  induction xs generalizing s with
  | nil => rfl
  | cons x rest ih =>
    rw [State.retireTags]
    simp [ih]

@[simp] theorem State.outer_dropSet (s : State) (sc : ScrId) (r : SetRole) :
    (s.dropSet sc r).outer = s.outer := by
  unfold State.dropSet
  (repeat' split) <;> simp

@[simp] theorem State.outer_applyCommit (s : State) (sc : ScrId) :
    (s.applyCommit sc).outer = s.outer := by
  unfold State.applyCommit
  dsimp only
  split
  · rw [State.outer_answerEnd, State.outer_setScreen]
  · rfl

@[simp] theorem State.outer_retire (s : State) (sc : ScrId) :
    (s.retire sc).outer = s.outer := by
  unfold State.retire
  dsimp only
  split
  · split
    · rw [State.outer_setScreen, State.outer_retireTags]
    · rw [State.outer_dropSet, State.outer_setScreen, State.outer_retireTags]
  · rfl

@[simp] theorem State.outer_install (s : State) (sc : ScrId) (choice : LayoutChoice) :
    (s.install sc choice).outer = s.outer := by
  simp [State.install]

@[simp] theorem State.outer_reportLayout (s : State) (sc : ScrId) (choice : LayoutChoice) :
    (s.reportLayout sc choice).outer = s.outer := by
  simp [State.reportLayout, apply_ite State.outer]

@[simp] theorem State.outer_performLatch (s : State) (sc : ScrId) :
    (s.performLatch sc).outer = s.outer := by
  simp [State.performLatch]

@[simp] theorem State.outer_latchDue (s : State) (sc : ScrId) :
    (s.latchDue sc).outer = s.outer := by
  simp [State.latchDue, apply_ite State.outer]

@[simp] theorem State.outer_performOwed (s : State) (sc : ScrId) :
    (s.performOwed sc).outer = s.outer := by
  simp [State.performOwed, apply_ite State.outer]

@[simp] theorem State.outer_releaseRetiring (s : State) (sc : ScrId) :
    (s.releaseRetiring sc).outer = s.outer := by
  simp [State.releaseRetiring]

@[simp] theorem State.outer_releaseAfter (s : State) (sc : ScrId) (r : SetRole) :
    (s.releaseAfter sc r).outer = s.outer := by
  unfold State.releaseAfter
  (repeat' split) <;>
    first | rfl | simp [apply_ite State.outer]

@[simp] theorem State.outer_fetchReturn (s : State) (f : Fetch) (d : Beat) :
    (s.fetchReturn f d).outer = s.outer := by
  unfold State.fetchReturn
  dsimp only
  split
  · split
    · split
      · rw [State.outer_releaseAfter, State.outer_formRead, State.outer_setScreen]
      · rw [State.outer_setScreen]
    · rfl
  · rfl

@[simp] theorem State.outer_releaseFallback (s : State) (c : CamId) (p : Nat) (sc : ScrId)
    (r : SetRole) :
    (s.releaseFallback c p sc r).outer = s.outer := by
  unfold State.releaseFallback
  dsimp only
  split
  · rfl
  · split
    · rfl
    · next f _ => exact s.outer_removeTag c f (screenTag sc r true)

@[simp] theorem State.outer_releaseFallbacks (s : State) (c : CamId) (p : Nat) (xs : List
    (ScrId × SetRole)) :
    (s.releaseFallbacks c p xs).outer = s.outer := by
  induction xs generalizing s with
  | nil => rfl
  | cons x rest ih =>
    rw [State.releaseFallbacks]
    simp [ih]

@[simp] theorem State.outer_trigger (s : State) (ev : HwEvent) :
    (s.trigger ev).outer = s.outer := rfl

@[simp] theorem State.outer_reportEnded (s : State) (n : DescId) (r : SnapResult) (camera : Nat)
    (remaining : BitVec 16) (seq : BitVec 32) :
    (s.reportEnded n r camera remaining seq).outer = s.outer := by
  simp [State.reportEnded]

@[simp] theorem State.outer_reportDone (s : State) (x : HeldDone) :
    (s.reportDone x).outer = s.outer := by
  simp [State.reportDone]

@[simp] theorem State.outer_reportAllDone (s : State) (xs : List HeldDone) :
    (s.reportAllDone xs).outer = s.outer := by
  induction xs generalizing s with
  | nil => rfl
  | cons x rest ih =>
    rw [State.reportAllDone]
    simp [ih]

@[simp] theorem State.outer_chainEnd (s : State) :
    (s.chainEnd).outer = s.outer := by
  simp [State.chainEnd]

@[simp] theorem State.outer_endRun (s : State) (r : SnapResult) :
    (s.endRun r).outer = s.outer := by
  unfold State.endRun
  (repeat' split) <;> simp

@[simp] theorem State.outer_storeAborted (s : State) :
    (s.storeAborted).outer = s.outer := by
  simp [State.storeAborted, apply_ite State.outer]

@[simp] theorem State.outer_startCopy (s : State) (c : CamId) (j : Nat) (d : Loaded) :
    (s.startCopy c j d).outer = s.outer := rfl

@[simp] theorem State.outer_checkLoaded (s : State) (d : Loaded) :
    (s.checkLoaded d).outer = s.outer := by
  unfold State.checkLoaded
  dsimp only
  split
  · rw [State.outer_chainEnd, State.outer_setEngine]
  · split
    · simp
    · split
      · simp
      · split
        · simp
        · split
          · simp
          · split <;> simp

@[simp] theorem State.outer_dropSource (s : State) :
    (s.dropSource).outer = s.outer := by
  unfold State.dropSource
  split <;> rfl

@[simp] theorem State.outer_settleAbort (s : State) :
    (s.settleAbort).outer = s.outer := by
  unfold State.settleAbort
  (repeat' split) <;> simp

@[simp] theorem State.outer_afterCopy (s : State) (d : Loaded) :
    (s.afterCopy d).outer = s.outer := by
  simp [State.afterCopy, apply_ite State.outer]

@[simp] theorem State.outer_copyEnd (s : State) :
    (s.copyEnd).outer = s.outer := by
  unfold State.copyEnd
  (repeat' split) <;> simp

@[simp] theorem State.outer_burstWaitEnd (s : State) (c : CamId) :
    (s.burstWaitEnd c).outer = s.outer := by
  simp [State.burstWaitEnd, apply_ite State.outer]

@[simp] theorem State.outer_burstNextFrame (s : State) (c : CamId) (j : Nat) :
    (s.burstNextFrame c j).outer = s.outer := by
  unfold State.burstNextFrame
  (repeat' split) <;> rfl

@[simp] theorem State.outer_followLink (s : State) (target : DescId) :
    (s.followLink target).outer = s.outer := by
  simp [State.followLink, apply_ite State.outer]

@[simp] theorem State.outer_modEval (s : State) (c : CamId) (f : Evaluator → Evaluator) :
    (s.modEval c f).outer = s.outer := rfl

@[simp] theorem State.outer_reportVerdict (s : State) (c : CamId) (old new : Verdict)
    (level : Nat) (seq : BitVec 32) :
    (s.reportVerdict c old new level seq).outer = s.outer := by
  simp [State.reportVerdict]

@[simp] theorem State.outer_clearTables (s : State) (c : CamId) :
    (s.clearTables c).outer = s.outer := by
  simp [State.clearTables, apply_ite State.outer]

@[simp] theorem State.outer_activate (s : State) (c : CamId) :
    (s.activate c).outer = s.outer := by
  simp [State.activate]

@[simp] theorem State.outer_learnStep (s : State) (c : CamId) (seq : BitVec 32) (v : FrameValues) :
    (s.learnStep c seq v).outer = s.outer := by
  simp [State.learnStep, apply_ite State.outer]

@[simp] theorem State.outer_watchStep (s : State) (c : CamId) (seq : BitVec 32) (v : FrameValues) :
    (s.watchStep c seq v).outer = s.outer := by
  simp [State.watchStep, apply_ite State.outer]

@[simp] theorem State.outer_evaluate (s : State) (c : CamId) (seq : BitVec 32) (v : FrameValues) :
    (s.evaluate c seq v).outer = s.outer := by
  unfold State.evaluate
  dsimp only
  split
  · split <;> simp
  · simp

@[simp] theorem State.outer_countEligible (s : State) (c : CamId) (seq : BitVec 32)
    (v : FrameValues) :
    (s.countEligible c seq v).outer = s.outer := by
  simp [State.countEligible, apply_ite State.outer]

@[simp] theorem State.outer_endRestartWait (s : State) (c : CamId) :
    (s.endRestartWait c).outer = s.outer := by
  unfold State.endRestartWait
  (repeat' split) <;> simp

@[simp] theorem State.outer_countRestart (s : State) (c : CamId) :
    (s.countRestart c).outer = s.outer := by
  simp [State.countRestart, apply_ite State.outer]

@[simp] theorem State.outer_lensCompletion (s : State) (c : CamId) (seq : BitVec 32)
    (disordered : Bool) (v : FrameValues) :
    (s.lensCompletion c seq disordered v).outer = s.outer := by
  unfold State.lensCompletion
  (repeat' split) <;> simp

@[simp] theorem State.outer_lensStale (s : State) (c : CamId) :
    (s.lensStale c).outer = s.outer := rfl

@[simp] theorem State.outer_lensLive (s : State) (c : CamId) :
    (s.lensLive c).outer = s.outer := rfl

@[simp] theorem State.outer_lensLost (s : State) (c : CamId) :
    (s.lensLost c).outer = s.outer := by
  unfold State.lensLost
  (repeat' split) <;> simp

@[simp] theorem State.outer_lensOff (s : State) (c : CamId) :
    (s.lensOff c).outer = s.outer := by
  unfold State.lensOff
  (repeat' split) <;> simp

@[simp] theorem State.outer_setMode (s : State) (c : CamId) (m : EvMode) :
    (s.setMode c m).outer = s.outer := rfl

@[simp] theorem State.outer_takeEvalRun (s : State) (c : CamId) :
    (s.takeEvalRun c).outer = s.outer := by
  unfold State.takeEvalRun
  dsimp only
  rw [State.outer_answer]
  split
  · split <;> simp
  · simp

@[simp] theorem State.outer_takeEvalPause (s : State) (c : CamId) :
    (s.takeEvalPause c).outer = s.outer := by
  unfold State.takeEvalPause
  dsimp only
  rw [State.outer_answer]
  split
  · split <;> simp
  · simp

@[simp] theorem State.outer_takeEvalStop (s : State) (c : CamId) :
    (s.takeEvalStop c).outer = s.outer := by
  simp [State.takeEvalStop]

@[simp] theorem State.outer_relearn (s : State) (c : CamId) (st : EvState) :
    (s.relearn c st).outer = s.outer := by
  simp [State.relearn]

@[simp] theorem State.outer_takeRelearn (s : State) (c : CamId) :
    (s.takeRelearn c).outer = s.outer := by
  unfold State.takeRelearn
  (repeat' split) <;> simp

@[simp] theorem State.outer_reportChannel (s : State) (k : Kind) (c : CamId) (left : Channel) :
    (s.reportChannel k c left).outer = s.outer := by
  simp [State.reportChannel]

@[simp] theorem State.outer_enterLive (s : State) (c : CamId) :
    (s.enterLive c).outer = s.outer := by
  simp [State.enterLive, apply_ite State.outer]

@[simp] theorem State.outer_enterStale (s : State) (c : CamId) :
    (s.enterStale c).outer = s.outer := by
  simp [State.enterStale]

@[simp] theorem State.outer_enterLost (s : State) (c : CamId) :
    (s.enterLost c).outer = s.outer := by
  simp [State.enterLost]

@[simp] theorem State.outer_staleExpiry (s : State) (c : CamId) :
    (s.staleExpiry c).outer = s.outer := by
  simp [State.staleExpiry, apply_ite State.outer]

@[simp] theorem State.outer_lostExpiry (s : State) (c : CamId) :
    (s.lostExpiry c).outer = s.outer := by
  simp [State.lostExpiry, apply_ite State.outer]

@[simp] theorem State.outer_truncate (s : State) (c : CamId) (cause : TruncCause) :
    (s.truncate c cause).outer = s.outer := by
  unfold State.truncate
  dsimp only
  split
  · rfl
  · rw [State.outer_report, State.outer_setCam]

@[simp] theorem State.outer_gapExpiry (s : State) (c : CamId) :
    (s.gapExpiry c).outer = s.outer := by
  simp [State.gapExpiry]

@[simp] theorem State.outer_reportDrop (s : State) (c : CamId) (seq : BitVec 32) :
    (s.reportDrop c seq).outer = s.outer := by
  simp [State.reportDrop]

@[simp] theorem State.outer_frameStart (s : State) (c : CamId) :
    (s.frameStart c).outer = s.outer := by
  simp [State.frameStart, apply_ite State.outer]

@[simp] theorem State.outer_frameCompletion (s : State) (c : CamId) (r : IntakeRec) :
    (s.frameCompletion c r).outer = s.outer := by
  unfold State.frameCompletion
  dsimp only
  cases r.target <;> simp

@[simp] theorem State.outer_storeBeat (s : State) (c : CamId) (t : Option Nat) (b : Nat)
    (d : Beat) (en : Enables) :
    (s.storeBeat c t b d en).outer = s.outer := by
  unfold State.storeBeat
  split <;> rfl

@[simp] theorem State.outer_frameBeat (s : State) (c : CamId) (b : Nat) (d : Beat) (en : Enables) :
    (s.frameBeat c b d en).outer = s.outer := by
  unfold State.frameBeat
  (repeat' split) <;>
    first | rfl | simp [apply_ite State.outer]

@[simp] theorem State.outer_intakeWrite (s : State) (c : CamId) (a : Nat) (d : Beat)
    (en : Enables) :
    (s.intakeWrite c a d en).outer = s.outer := by
  simp [State.intakeWrite, apply_ite State.outer]

@[simp] theorem State.outer_intakeRead (s : State) (c : CamId) (p : PortTag) (a : Nat) :
    (s.intakeRead c p a).outer = s.outer := by
  unfold State.intakeRead
  dsimp only
  split
  · rfl
  · rfl

@[simp] theorem State.outer_armCamera (s : State) (c : CamId) :
    (s.armCamera c).outer = s.outer := by
  simp [State.armCamera]

@[simp] theorem State.outer_takeArm (s : State) (c : CamId) :
    (s.takeArm c).outer = s.outer := by
  simp [State.takeArm, apply_ite State.outer]

@[simp] theorem State.outer_disarmCamera (s : State) (c : CamId) :
    (s.disarmCamera c).outer = s.outer := by
  simp [State.disarmCamera]

@[simp] theorem State.outer_takeDisarm (s : State) (c : CamId) :
    (s.takeDisarm c).outer = s.outer := by
  simp [State.takeDisarm, apply_ite State.outer]

@[simp] theorem State.outer_takeSkip (s : State) (c : CamId) :
    (s.takeSkip c).outer = s.outer := by
  simp [State.takeSkip, apply_ite State.outer]

@[simp] theorem State.outer_resetCamera (s : State) (c : CamId) :
    (s.resetCamera c).outer = s.outer := by
  simp [State.resetCamera]

@[simp] theorem State.outer_takeReset (s : State) (c : CamId) :
    (s.takeReset c).outer = s.outer := by
  simp [State.takeReset, apply_ite State.outer]

@[simp] theorem State.outer_formEdge (s : State) (l : LineId) :
    (s.formEdge l).outer = s.outer := rfl

@[simp] theorem State.outer_filterLine (s : State) (l : LineId) :
    (s.filterLine l).outer = s.outer := by
  simp [State.filterLine, apply_ite State.outer]

@[simp] theorem State.outer_pinChange (s : State) (l : LineId) (level : Bool) :
    (s.pinChange l level).outer = s.outer := by
  simp [State.pinChange]

@[simp] theorem State.outer_polarityChange (s : State) (l : LineId) (old : LineSettings) :
    (s.polarityChange l old).outer = s.outer := by
  simp [State.polarityChange, apply_ite State.outer]

@[simp] theorem State.outer_filterExpiry (s : State) (l : LineId) :
    (s.filterExpiry l).outer = s.outer := by
  simp [State.filterExpiry, apply_ite State.outer]

@[simp] theorem State.outer_setUpLine (s : State) (l : LineId) (pin : Bool) :
    (s.setUpLine l pin).outer = s.outer := by
  simp [State.setUpLine, apply_ite State.outer]

@[simp] theorem State.outer_setUpLines (s : State) (xs : List LineId) :
    (s.setUpLines xs).outer = s.outer := by
  induction xs generalizing s with
  | nil => rfl
  | cons x rest ih =>
    rw [State.setUpLines]
    simp [ih]

@[simp] theorem State.outer_syncChange (s : State) (sc : ScrId) (level : Bool) :
    (s.syncChange sc level).outer = s.outer := by
  simp [State.syncChange, apply_ite State.outer]

@[simp] theorem State.outer_offsetExpiry (s : State) (sc : ScrId) :
    (s.offsetExpiry sc).outer = s.outer := by
  simp [State.offsetExpiry]

@[simp] theorem State.outer_cycleExpiry (s : State) (sc : ScrId) :
    (s.cycleExpiry sc).outer = s.outer := by
  simp [State.cycleExpiry]

@[simp] theorem State.outer_serveRead (s : State) (sc : ScrId) (p : PortTag) (o : Nat) :
    (s.serveRead sc p o).outer = s.outer := by
  unfold State.serveRead
  dsimp only
  split
  · simp
  · split
    · split <;> simp
    · rfl

@[simp] theorem State.outer_screenRead (s : State) (sc : ScrId) (p : PortTag) (o : Nat) :
    (s.screenRead sc p o).outer = s.outer := by
  simp [State.screenRead, apply_ite State.outer]

@[simp] theorem State.outer_screenWrite (s : State) (sc : ScrId) (o : Nat) :
    (s.screenWrite sc o).outer = s.outer := by
  simp [State.screenWrite, apply_ite State.outer]

@[simp] theorem State.outer_takeEnable (s : State) (sc : ScrId) :
    (s.takeEnable sc).outer = s.outer := by
  simp [State.takeEnable, apply_ite State.outer]

@[simp] theorem State.outer_dropIdleSet (s : State) (sc : ScrId) (r : SetRole) :
    (s.dropIdleSet sc r).outer = s.outer := by
  simp [State.dropIdleSet, apply_ite State.outer]

@[simp] theorem State.outer_disableScreen (s : State) (sc : ScrId) :
    (s.disableScreen sc).outer = s.outer := by
  simp [State.disableScreen]

@[simp] theorem State.outer_takeDisable (s : State) (sc : ScrId) :
    (s.takeDisable sc).outer = s.outer := by
  simp [State.takeDisable, apply_ite State.outer]

@[simp] theorem State.outer_takeCommit (s : State) (sc : ScrId) :
    (s.takeCommit sc).outer = s.outer := by
  simp [State.takeCommit, apply_ite State.outer]

@[simp] theorem State.outer_dropCommit (s : State) (sc : ScrId) (x : Screen) :
    (s.dropCommit sc x).outer = s.outer := by
  simp [State.dropCommit, apply_ite State.outer]

@[simp] theorem State.outer_restartEntries (s : State) (before : SideFlags) (x : Screen)
    (xs : List Entry) :
    (s.restartEntries before x xs).outer = s.outer := by
  induction xs generalizing s with
  | nil => rfl
  | cons x rest ih =>
    rw [State.restartEntries]
    simp [ih]

@[simp] theorem State.outer_restartScreens (s : State) (old : State) (xs : List ScrId) :
    (s.restartScreens old xs).outer = s.outer := by
  induction xs generalizing s with
  | nil => rfl
  | cons x rest ih =>
    rw [State.restartScreens]
    simp [ih]

@[simp] theorem State.outer_restartBlocks (s : State) :
    (s.restartBlocks).outer = s.outer := rfl

@[simp] theorem State.outer_restartAll (s : State) :
    (s.restartAll).outer = s.outer := by
  simp [State.restartAll]

@[simp] theorem State.outer_powerOnLines (s : State) (pins : Vector Bool 4) (xs : List LineId) :
    (s.powerOnLines pins xs).outer = s.outer := by
  induction xs generalizing s with
  | nil => rfl
  | cons x rest ih =>
    rw [State.powerOnLines]
    simp [ih]

@[simp] theorem State.outer_takeEngineEnable (s : State) :
    (s.takeEngineEnable).outer = s.outer := rfl

@[simp] theorem State.outer_takeEngineDisable (s : State) :
    (s.takeEngineDisable).outer = s.outer := rfl

@[simp] theorem State.outer_takeStart (s : State) :
    (s.takeStart).outer = s.outer := by
  simp [State.takeStart, apply_ite State.outer]

@[simp] theorem State.outer_takeSnapshotArm (s : State) :
    (s.takeSnapshotArm).outer = s.outer := by
  simp [State.takeSnapshotArm, apply_ite State.outer]

@[simp] theorem State.outer_endEarly (s : State) (why : Ending) :
    (s.endEarly why).outer = s.outer := by
  unfold State.endEarly
  (repeat' split) <;> simp

@[simp] theorem State.outer_abortRun (s : State) :
    (s.abortRun).outer = s.outer := by
  simp [State.abortRun, apply_ite State.outer]

@[simp] theorem State.outer_takeAbort (s : State) :
    (s.takeAbort).outer = s.outer := by
  simp [State.takeAbort, apply_ite State.outer]

@[simp] theorem State.outer_stepLoad (s : State) :
    (s.stepLoad).outer = s.outer := by
  unfold State.stepLoad
  (repeat' split) <;> rfl

@[simp] theorem State.outer_loadReturn (s : State) (run : Nat) (d : Beat) :
    (s.loadReturn run d).outer = s.outer := by
  unfold State.loadReturn
  dsimp only
  split
  · split
    · rw [State.outer_checkLoaded, State.outer_setEngine]
    · rw [State.outer_storeAborted, State.outer_setEngine, State.outer_setEngine]
  · rfl

@[simp] theorem State.outer_stepCopyRead (s : State) :
    (s.stepCopyRead).outer = s.outer := by
  unfold State.stepCopyRead
  (repeat' split) <;> rfl

@[simp] theorem State.outer_copyReadBack (s : State) (run : Nat) (d : Beat) :
    (s.copyReadBack run d).outer = s.outer := by
  unfold State.copyReadBack
  (repeat' split) <;> simp

@[simp] theorem State.outer_stepCopyWrite (s : State) :
    (s.stepCopyWrite).outer = s.outer := by
  unfold State.stepCopyWrite
  dsimp only
  split
  · split
    · split
      · rw [State.outer_settleAbort]; rfl
      · split
        · rw [State.outer_copyEnd]; rfl
        · rfl
    · rfl
  · rfl

@[simp] theorem State.outer_stepWriteBack (s : State) :
    (s.stepWriteBack).outer = s.outer := by
  unfold State.stepWriteBack
  (repeat' split) <;>
    first | rfl | simp [apply_ite State.outer]

@[simp] theorem State.outer_stepArmWrite (s : State) :
    (s.stepArmWrite).outer = s.outer := by
  unfold State.stepArmWrite
  (repeat' split) <;> rfl

@[simp] theorem State.outer_takeRestart (s : State) :
    (s.takeRestart).outer = s.outer := by
  simp [State.takeRestart, apply_ite State.outer]

@[simp] theorem State.outer_partRequest (s : State) (code : Byte) :
    (s.partRequest code).outer = s.outer := by
  simp [State.partRequest, apply_ite State.outer]

@[simp] theorem State.outer_cameraRequest (s : State) (c : CamId) (code : Byte) :
    (s.cameraRequest c code).outer = s.outer := by
  simp [State.cameraRequest, apply_ite State.outer]

@[simp] theorem State.outer_screenRequest (s : State) (sc : ScrId) (code : Byte) :
    (s.screenRequest sc code).outer = s.outer := by
  simp [State.screenRequest, apply_ite State.outer]

@[simp] theorem State.outer_engineRequest (s : State) (code : Byte) :
    (s.engineRequest code).outer = s.outer := by
  simp [State.engineRequest, apply_ite State.outer]

@[simp] theorem State.outer_ownerRequest (s : State) (o : Owner) (code : Byte) :
    (s.ownerRequest o code).outer = s.outer := by
  unfold State.ownerRequest
  (repeat' split) <;> simp

@[simp] theorem State.outer_takeRequest (s : State) (o : Owner) (code : Byte) (f : ReqFields) :
    (s.takeRequest o code f).outer = s.outer := by
  simp [State.takeRequest, apply_ite State.outer]

@[simp] theorem State.outer_putSetting (s : State) (o : Nat) (b : Byte) :
    (s.putSetting o b).outer = s.outer := by
  unfold State.putSetting
  split <;> rfl

@[simp] theorem State.outer_mergeByte (s : State) (o : Nat) (b : Byte) :
    (s.mergeByte o b).outer = s.outer := by
  simp [State.mergeByte, apply_ite State.outer]

@[simp] theorem State.outer_mergeBytes (s : State) (o : Nat) (d : Beat) (en : Enables)
    (xs : List Nat) :
    (s.mergeBytes o d en xs).outer = s.outer := by
  induction xs generalizing s with
  | nil => rfl
  | cons x rest ih =>
    rw [State.mergeBytes]
    split <;> simp [ih]

@[simp] theorem State.outer_polarityChanges (s : State) (old : State) (xs : List LineId) :
    (s.polarityChanges old xs).outer = s.outer := by
  induction xs generalizing s with
  | nil => rfl
  | cons x rest ih =>
    rw [State.polarityChanges]
    simp [ih]

@[simp] theorem State.outer_reportIgnored (s : State) (o n : Nat) :
    (s.reportIgnored o n).outer = s.outer := by
  simp [State.reportIgnored, apply_ite State.outer]

@[simp] theorem State.outer_mergeConfig (s : State) (o : Nat) (d : Beat) (en : Enables) :
    (s.mergeConfig o d en).outer = s.outer := by
  simp [State.mergeConfig]

@[simp] theorem State.outer_mergeDescriptor (s : State) (o : Nat) (d : Beat) (en : Enables) :
    (s.mergeDescriptor o d en).outer = s.outer := rfl

theorem State.outer_attention (s : State) (a : Attention) (n : Nat) :
    State.outer { s with attention := a, liveReads := n } = s.outer := rfl

@[simp] theorem State.outer_liveRead (s : State) (p : PortTag) (o : Nat) :
    (s.liveRead p o).outer = s.outer :=
  (State.outer_attention _ _ _).trans (State.outer_answerRead ..)

@[simp] theorem State.outer_requestAt (s : State) (o : Owner) (d : Beat) (en : Enables) (i : Nat) :
    (s.requestAt o d en i).outer = s.outer := by
  unfold State.requestAt
  (repeat' split) <;> simp

@[simp] theorem State.outer_requestsAt (s : State) (d : Beat) (en : Enables) (xs : List
    (Owner × Nat)) :
    (s.requestsAt d en xs).outer = s.outer := by
  induction xs generalizing s with
  | nil => rfl
  | cons x rest ih =>
    rw [State.requestsAt]
    simp [ih]

@[simp] theorem State.outer_liveBytes (s : State) (o : Nat) (d : Beat) (en : Enables) :
    (s.liveBytes o d en).outer = s.outer := by
  unfold State.liveBytes
  (repeat' split) <;>
    first | rfl | simp [apply_ite State.outer]

@[simp] theorem State.outer_liveWrite (s : State) (p : PortTag) (o : Nat) (d : Beat)
    (en : Enables) :
    (s.liveWrite p o d en).outer = s.outer := by
  simp [State.liveWrite]

@[simp] theorem State.outer_passRead (s : State) (p : PortTag) (a : Nat) :
    (s.passRead p a).outer = s.outer := rfl

@[simp] theorem State.outer_passWrite (s : State) (p : PortTag) (a : Nat) (d : Beat)
    (en : Enables) :
    (s.passWrite p a d en).outer = s.outer := rfl

@[simp] theorem State.outer_pass (s : State) (p : PortTag) (a : Nat) (xs : BeatOp) :
    (s.pass p a xs).outer = s.outer := by
  cases xs <;> rfl

@[simp] theorem State.outer_acceptClass (s : State) (cl : Class) (p : PortTag) (a : Nat)
    (op : BeatOp) :
    (s.acceptClass cl p a op).outer = s.outer := by
  cases cl <;> cases op <;> simp [State.acceptClass]

@[simp] theorem State.outer_acceptBeat (s : State) (p : PortTag) (a : Addr) (op : BeatOp) :
    (s.acceptBeat p a op).outer = s.outer := by
  simp [State.acceptBeat]

@[simp] theorem State.outer_acceptItem (s : State) (xs : UpItem) :
    (s.acceptItem xs).outer = s.outer := by
  cases xs <;> simp [State.acceptItem]

@[simp] theorem State.outer_present (s : State) (i : UpItem) :
    (s.present i).outer = s.outer := by
  unfold State.present
  (repeat' split) <;> first | rfl | simp

@[simp] theorem State.outer_drain (s : State) (xs : List UpItem) :
    (s.drain xs).outer = s.outer := by
  induction xs generalizing s with
  | nil => rfl
  | cons x rest ih =>
    rw [State.drain]
    split
    · simp [ih]
    · rfl

@[simp] theorem State.outer_settle (s : State) :
    (s.settle).outer = s.outer := by
  simp [State.settle]

@[simp] theorem State.outer_leave (s : State) (q : Queue) :
    (s.leave q).outer = s.outer := rfl

@[simp] theorem State.outer_handNextFetch (s : State) :
    (s.handNextFetch).outer = s.outer := by
  unfold State.handNextFetch
  (repeat' split) <;> rfl

@[simp] theorem State.outer_handNextRecord (s : State) :
    (s.handNextRecord).outer = s.outer := by
  unfold State.handNextRecord
  (repeat' split) <;> rfl

@[simp] theorem State.outer_runOut (s : State) (x : Timer) :
    (s.runOut x).outer = s.outer := by
  cases x <;> simp [State.runOut]

@[simp] theorem State.outer_expire (s : State) (x : Timer) :
    (s.expire x).outer = s.outer := by
  unfold State.expire
  split <;> simp

@[simp] theorem State.outer_expireAll (s : State) (xs : List Timer) :
    (s.expireAll xs).outer = s.outer := by
  induction xs generalizing s with
  | nil => rfl
  | cons x rest ih =>
    rw [State.expireAll]
    simp [ih]

end Sys2Proof.Machine
end

