-- ==== Sys2Proof/Laws/Memory.lean ====
section
/-!
SUPPORT. DRAM: reading after writing, and the canonical form.
-/
namespace Sys2Proof.Machine

/-- A key of the memory after a write is the address written or an old key. -/
theorem Memory.mem_write {m : Memory} {a : Nat} {b : Byte} {x : Host.Cell}
    (h : x ∈ Memory.write m a b) : x = (a, b) ∨ x ∈ m := by
  induction m with
  | nil => simpa [Memory.write] using h
  | cons y rest ih =>
    obtain ⟨k, v⟩ := y
    simp only [Memory.write] at h
    split at h
    · simpa using h
    · split at h
      · simp only [List.mem_cons] at h
        rcases h with h | h
        · exact .inl h
        · exact .inr (by simp [h])
      · simp only [List.mem_cons] at h
        rcases h with h | h
        · exact .inr (by simp [h])
        · rcases ih h with h | h
          · exact .inl h
          · exact .inr (by simp [h])

/-- A write keeps the canonical form. -/
theorem Memory.wf_write {m : Memory} (h : Memory.wf m) (a : Nat) (b : Byte) :
    Memory.wf (Memory.write m a b) := by
  induction m with
  | nil => simp [Memory.write, Memory.wf]
  | cons y rest ih =>
    obtain ⟨k, v⟩ := y
    rw [Memory.wf, List.pairwise_cons] at h
    simp only [Memory.write]
    split
    · next hlt =>
      rw [Memory.wf, List.pairwise_cons]
      refine ⟨?_, by rw [List.pairwise_cons]; exact h⟩
      intro x hx
      simp only [List.mem_cons] at hx
      rcases hx with rfl | hx
      · exact hlt
      · exact Nat.lt_trans hlt (h.1 x hx)
    · split
      · next heq =>
        subst heq
        rw [Memory.wf, List.pairwise_cons]
        exact h
      · next hge hne =>
        rw [Memory.wf, List.pairwise_cons]
        refine ⟨?_, ih h.2⟩
        intro x hx
        rcases Memory.mem_write hx with rfl | hx
        · simp only at hge hne ⊢; omega
        · exact h.1 x hx

/-- Reading after a write, in a memory of canonical form. -/
theorem Memory.lookup_write {m : Memory} (h : Memory.wf m) (a : Nat) (b : Byte) (x : Nat) :
    Memory.lookup (Memory.write m a b) x = if x = a then some b else Memory.lookup m x := by
  induction m with
  | nil =>
    simp only [Memory.write, Memory.lookup]
    by_cases hx : x = a
    · rw [if_pos hx, if_pos hx.symm]
    · rw [if_neg hx, if_neg (Ne.symm hx)]
  | cons y rest ih =>
    obtain ⟨k, v⟩ := y
    rw [Memory.wf, List.pairwise_cons] at h
    simp only [Memory.write]
    by_cases hx : x = a
    · subst hx
      rw [if_pos rfl]
      split
      · simp [Memory.lookup]
      · split
        · simp [Memory.lookup]
        · next hne =>
          rw [Memory.lookup, if_neg (Ne.symm hne), ih h.2, if_pos rfl]
    · rw [if_neg hx]
      split
      · rw [Memory.lookup, if_neg (Ne.symm hx)]
      · split
        · next heq =>
          subst heq
          rw [Memory.lookup, if_neg (Ne.symm hx), Memory.lookup, if_neg (Ne.symm hx)]
        · rw [Memory.lookup, Memory.lookup, ih h.2, if_neg hx]

/-- A byte after a write. -/
theorem Memory.byte_write {m : Memory} (h : Memory.wf m) (a : Nat) (b : Byte) (x : Nat) :
    Memory.byte (Memory.write m a b) x = if x = a then b else Memory.byte m x := by
  simp only [Memory.byte, Memory.lookup_write h]
  split <;> simp_all

/-- The writing of listed bytes keeps the canonical form. -/
theorem Memory.wf_writeBytes {m : Memory} (h : Memory.wf m) (a : Nat) (d : Beat) (en : Enables)
    (is : List Nat) : Memory.wf (Memory.writeBytes m a d en is) := by
  induction is generalizing m with
  | nil => exact h
  | cons i rest ih =>
    simp only [Memory.writeBytes]
    apply ih
    split
    · exact Memory.wf_write h _ _
    · exact h

/-- A write beat keeps the canonical form. -/
theorem Memory.wf_writeBeat {m : Memory} (h : Memory.wf m) (a : Nat) (d : Beat) (en : Enables) :
    Memory.wf (Memory.writeBeat m a d en) := Memory.wf_writeBytes h a d en _

/-- A byte that no listed enabled byte covers is as it was. -/
theorem Memory.byte_writeBytes_of_not {m : Memory} (h : Memory.wf m) (a : Nat) (d : Beat)
    (en : Enables) (is : List Nat) (x : Nat)
    (hx : ∀ i ∈ is, en.getLsbD i = true → x ≠ a + i) :
    Memory.byte (Memory.writeBytes m a d en is) x = Memory.byte m x := by
  induction is generalizing m with
  | nil => rfl
  | cons i rest ih =>
    simp only [Memory.writeBytes]
    split
    · next hi =>
      rw [ih (Memory.wf_write h _ _) (fun j hj => hx j (by simp [hj])), Memory.byte_write h,
        if_neg (hx i (by simp) hi)]
    · exact ih h (fun j hj => hx j (by simp [hj]))

/-- A listed enabled byte takes its byte of the beat. -/
theorem Memory.byte_writeBytes_of_mem {m : Memory} (h : Memory.wf m) (a : Nat) (d : Beat)
    (en : Enables) (is : List Nat) (hn : is.Nodup) (i : Nat) (hi : i ∈ is)
    (he : en.getLsbD i = true) :
    Memory.byte (Memory.writeBytes m a d en is) (a + i) = beatByte d i := by
  induction is generalizing m with
  | nil => simp at hi
  | cons j rest ih =>
    rw [List.nodup_cons] at hn
    simp only [Memory.writeBytes]
    simp only [List.mem_cons] at hi
    rcases hi with rfl | hi
    · rw [if_pos he, Memory.byte_writeBytes_of_not (Memory.wf_write h _ _), Memory.byte_write h,
        if_pos rfl]
      intro k hk _ hx
      exact hn.1 (by have : i = k := by omega
                     exact this ▸ hk)
    · split
      · exact ih (Memory.wf_write h _ _) hn.2 hi
      · exact ih h hn.2 hi

/-- A byte of DRAM after a write beat: the beat's byte where its enable covers it, else the old one. -/
theorem Memory.byte_writeBeat {m : Memory} (h : Memory.wf m) (a : Nat) (d : Beat) (en : Enables)
    (x : Nat) :
    Memory.byte (Memory.writeBeat m a d en) x =
      if a ≤ x ∧ x < a + 64 ∧ en.getLsbD (x - a) = true then beatByte d (x - a)
      else Memory.byte m x := by
  split
  · next hx =>
    have := Memory.byte_writeBytes_of_mem h a d en (List.range 64) List.nodup_range (x - a)
      (by simp; omega) hx.2.2
    rwa [show a + (x - a) = x by omega] at this
  · next hx =>
    apply Memory.byte_writeBytes_of_not h
    intro i hi he hxi
    subst hxi
    simp only [List.mem_range] at hi
    exact hx ⟨by omega, by omega, by simpa using he⟩

end Sys2Proof.Machine
end

