-- ==== Sys2Proof/Laws/Ops.lean ====
section
/-!
SUPPORT. What the shared operations do, said once: the queues, the ring and its reports, the words, the
upstream port, the slots, and one step.
-/
namespace Sys2Proof.Machine

/-! ### Queues (R158) -/

theorem Queue.idx_inj {q r : Queue} (h : q.idx = r.idx) : q = r := by
  revert h; cases q <;> cases r <;> decide

/-- A beat handed to one queue stands at its end; the other queues are as they were. -/
theorem State.queue_hand (s : State) (q r : Queue) (a : Nat) (op : MemOp) :
    (s.hand q a op).queue r =
      if r = q then s.queue q ++ [⟨s.arb.handed, a, op⟩] else s.queue r := by
  simp only [State.queue, State.hand]
  split
  · next h => subst h; simp
  · next h =>
    exact Vector.getElem_set_ne _ _ (fun e => h (Queue.idx_inj (Fin.ext e)).symm)

/-- The length of a queue after a beat has been handed where there is room. -/
theorem State.length_queue_hand {s : State} {q : Queue} (h : s.room q = true) (r : Queue) (a : Nat)
    (op : MemOp) (hr : (s.queue r).length ≤ 16) : ((s.hand q a op).queue r).length ≤ 16 := by
  simp only [State.room, decide_eq_true_eq] at h
  rw [State.queue_hand]
  split
  · simp; omega
  · exact hr

/-! ### The ring and reports (R171 to R173) -/

/-- The occupancy is at most 63 after a report is taken. -/
theorem Ring.occupancy_take {r : Ring} (h : r.occupancy ≤ 63) (k : Kind) (src : Nat) (now : Time)
    (d0 d1 : BitVec 32) : (r.take k src now d0 d1).occupancy ≤ 63 := by
  simp only [Ring.take]
  split
  · exact h
  · next hlt =>
    simp only [Ring.occupancy, Ring.unconsumed, List.length_append, List.length_singleton] at *
    omega

/-- Handing one staged record keeps the occupancy: it leaves the list and the producer index advances. -/
theorem Ring.occupancy_advance {r : Ring} {x : Record} {rest : List Record}
    (h : r.unconsumed + (x :: rest).length ≤ 63) :
    Ring.occupancy { r with producer := r.producer + 1, staging := rest } =
      r.unconsumed + (x :: rest).length := by
  simp only [Ring.occupancy, Ring.unconsumed, List.length_cons] at *
  have : (r.producer + 1 - r.consumer).toNat = (r.producer - r.consumer).toNat + 1 := by
    have h2 : (r.producer - r.consumer).toNat < 63 := by omega
    generalize r.producer = p at *
    generalize r.consumer = c at *
    bv_omega
  omega

/-- Handing staged records keeps the occupancy. -/
theorem State.occupancy_handStaged (s : State) (xs : List Record)
    (h : s.ring.unconsumed + xs.length ≤ 63) :
    (s.handStaged xs).ring.occupancy = s.ring.unconsumed + xs.length := by
  induction xs generalizing s with
  | nil => rfl
  | cons x rest ih =>
    rw [State.handStaged]
    split
    · have hp := Ring.occupancy_advance (r := s.ring) (x := x) (rest := rest) h
      have hu : (s.handRecord x).ring.unconsumed + rest.length =
          s.ring.unconsumed + (x :: rest).length := by
        have hr : (s.handRecord x).ring = { s.ring with producer := s.ring.producer + 1 } := by
          simp [State.handRecord]
        rw [hr]
        simpa only [Ring.occupancy, Ring.unconsumed] using hp
      rw [ih _ (by rw [hu]; exact h), hu]
    · rfl

/-- A report keeps the occupancy at 63 or less (R171). -/
theorem State.occupancy_report {s : State} (h : s.ring.occupancy ≤ 63) (k : Kind) (src : Nat)
    (d0 d1 : BitVec 32) : (s.report k src d0 d1).ring.occupancy ≤ 63 := by
  have ht := Ring.occupancy_take h k src s.timebase d0 d1
  rw [Ring.occupancy] at ht
  simp only [State.report]
  split
  · exact h
  · rw [State.occupancy_handStaged]
    · exact ht
    · exact ht

/-- Staged records are handed without a change of the consumer index, the sequence, or what was lost. -/
theorem State.ring_handStaged (s : State) (xs : List Record) :
    (s.handStaged xs).ring.consumer = s.ring.consumer ∧ (s.handStaged xs).ring.seq = s.ring.seq ∧
      (s.handStaged xs).ring.overflow = s.ring.overflow ∧
      (s.handStaged xs).ring.lost = s.ring.lost ∧
      (s.handStaged xs).ring.intEnable = s.ring.intEnable := by
  induction xs generalizing s with
  | nil => simp [State.handStaged]
  | cons x rest ih =>
    rw [State.handStaged]
    split
    · obtain ⟨h1, h2, h3, h4, h5⟩ := ih (s.handRecord x)
      exact ⟨h1, h2, h3, h4, h5⟩
    · simp

/-- What a report does to the ring: nothing where its kind is masked; else it takes a sequence value, and
is lost where the occupancy is 63 (R172). -/
theorem State.ring_report (s : State) (k : Kind) (src : Nat) (d0 d1 : BitVec 32) :
    (s.report k src d0 d1).ring.consumer = s.ring.consumer ∧
      (s.report k src d0 d1).ring.intEnable = s.ring.intEnable ∧
      (s.report k src d0 d1).ring.seq = (if s.masked k then s.ring.seq else s.ring.seq + 1) ∧
      (s.report k src d0 d1).ring.overflow =
        (s.ring.overflow || (!s.masked k && decide (63 ≤ s.ring.occupancy))) ∧
      (s.report k src d0 d1).ring.lost =
        (if s.masked k = false ∧ 63 ≤ s.ring.occupancy then satInc s.ring.lost
         else s.ring.lost) := by
  by_cases hm : s.masked k = true
  · have : (State.masked { s with attention := s.attention.set k } k) = true := hm
    simp [State.report, this, hm]
  · have hm' : s.masked k = false := by simpa using hm
    have h' : (State.masked { s with attention := s.attention.set k } k) = false := hm'
    simp only [State.report, h', Bool.false_eq_true, if_false, hm']
    obtain ⟨h1, h2, h3, h4, h5⟩ := State.ring_handStaged
      { s with
        attention := s.attention.set k
        ring := s.ring.take k src s.timebase d0 d1 }
      (s.ring.take k src s.timebase d0 d1).staging
    simp only [h1, h2, h3, h4, h5]
    by_cases hf : 63 ≤ s.ring.occupancy <;> simp [Ring.take, hf]

/-- A report sets its group and leaves every other (R170). -/
@[simp] theorem State.attention_handStaged (s : State) (xs : List Record) :
    (s.handStaged xs).attention = s.attention := by
  induction xs generalizing s with
  | nil => rfl
  | cons x rest ih =>
    rw [State.handStaged]
    split
    · rw [ih]; rfl
    · rfl

theorem State.attention_report (s : State) (k : Kind) (src : Nat) (d0 d1 : BitVec 32) :
    (s.report k src d0 d1).attention = s.attention.set k := by
  simp only [State.report]
  split <;> simp

/-- A report changes the attention summary, the ring and the queues alone. -/
theorem State.handStaged_eq (s : State) (xs : List Record) :
    s.handStaged xs = { s with arb := (s.handStaged xs).arb, ring := (s.handStaged xs).ring } := by
  induction xs generalizing s with
  | nil => rfl
  | cons x rest ih =>
    simp only [State.handStaged]
    split
    · rw [ih]; rfl
    · rfl

theorem State.report_eq (s : State) (k : Kind) (src : Nat) (d0 d1 : BitVec 32) :
    s.report k src d0 d1 =
      { s with
        arb := (s.report k src d0 d1).arb
        ring := (s.report k src d0 d1).ring
        attention := s.attention.set k } := by
  simp only [State.report]
  split
  · rfl
  · rw [State.handStaged_eq]

@[simp] theorem State.cams_report (s : State) (k : Kind) (src : Nat) (d0 d1 : BitVec 32) :
    (s.report k src d0 d1).cams = s.cams := by rw [State.report_eq]

@[simp] theorem State.cam_report (s : State) (k : Kind) (src : Nat) (d0 d1 : BitVec 32) (c : CamId) :
    (s.report k src d0 d1).cam c = s.cam c := by simp [State.cam]

@[simp] theorem State.screens_report (s : State) (k : Kind) (src : Nat) (d0 d1 : BitVec 32) :
    (s.report k src d0 d1).screens = s.screens := by rw [State.report_eq]

@[simp] theorem State.screen_report (s : State) (k : Kind) (src : Nat) (d0 d1 : BitVec 32)
    (c : ScrId) : (s.report k src d0 d1).screen c = s.screen c := by simp [State.screen]

@[simp] theorem State.lines_report (s : State) (k : Kind) (src : Nat) (d0 d1 : BitVec 32) :
    (s.report k src d0 d1).lines = s.lines := by rw [State.report_eq]

@[simp] theorem State.engine_report (s : State) (k : Kind) (src : Nat) (d0 d1 : BitVec 32) :
    (s.report k src d0 d1).engine = s.engine := by rw [State.report_eq]

@[simp] theorem State.part_report (s : State) (k : Kind) (src : Nat) (d0 d1 : BitVec 32) :
    (s.report k src d0 d1).part = s.part := by rw [State.report_eq]

@[simp] theorem State.words_report (s : State) (k : Kind) (src : Nat) (d0 d1 : BitVec 32) :
    (s.report k src d0 d1).words = s.words := by rw [State.report_eq]

@[simp] theorem State.port_report (s : State) (k : Kind) (src : Nat) (d0 d1 : BitVec 32) :
    (s.report k src d0 d1).port = s.port := by rw [State.report_eq]

@[simp] theorem State.timebase_report (s : State) (k : Kind) (src : Nat) (d0 d1 : BitVec 32) :
    (s.report k src d0 d1).timebase = s.timebase := by rw [State.report_eq]

/-! ### Words (R165) -/

@[simp] theorem State.mailbox_answer_self (s : State) (o : Owner) (r : Result) :
    (s.answer o r).mailbox o = (s.mailbox o).answer r := by simp [State.answer]

theorem State.mailbox_answer_of_ne (s : State) {o q : Owner} (r : Result) (h : q ≠ o) :
    (s.answer o r).mailbox q = s.mailbox q := State.mailbox_setMailbox_of_ne s _ h

/-- An answer changes the words alone. -/
theorem State.answer_eq (s : State) (o : Owner) (r : Result) :
    s.answer o r = { s with words := (s.answer o r).words } := State.setMailbox_eq ..

theorem State.answerEnd_eq (s : State) (o : Owner) (r : Result) :
    s.answerEnd o r = { s with words := (s.answerEnd o r).words } := State.setMailbox_eq ..

/-- An answer given at once leaves the open request (R165). -/
theorem Mailbox.openTag_answer (m : Mailbox) (r : Result) : (m.answer r).openTag = m.openTag := rfl

/-- A request that ends closes its word (R165). -/
theorem Mailbox.openTag_ended (m : Mailbox) (r : Result) : (m.ended r).openTag = none := by
  unfold Mailbox.ended; split <;> simp_all

/-! ### The upstream port (R149) -/

@[simp] theorem State.settle_of_empty {s : State} (h : s.port.held = []) : s.settle = s := by
  rw [State.settle, h, State.drain]
  cases s with
  | mk a b c d e f g i j k l m n o p port q r u =>
    cases port
    simp_all

/-- An item that can be taken, with nothing held back before it, is accepted. -/
theorem State.present_of_canTake {s : State} {i : UpItem} (h : s.port.held = [])
    (ht : s.canTake i = true) : s.present i = s.acceptItem i := by
  simp [State.present, h, ht]

/-- A timer that does not stand at its expiry does not run out. -/
theorem State.expire_of_not_due {s : State} {x : Timer} (h : s.timer x ≠ some s.timebase) :
    s.expire x = s := by
  have : timerDue s.timebase (s.timer x) = false := by simpa [timerDue] using h
  simp [State.expire, this]

/-- A timer at its expiry runs out, and nothing follows where no beat is held back. -/
theorem State.expire_of_due {s : State} {x : Timer} (h : s.timer x = some s.timebase)
    (hq : (s.runOut x).port.held = []) : s.expire x = s.runOut x := by
  have : timerDue s.timebase (s.timer x) = true := by simpa [timerDue] using h
  simp [State.expire, this, State.settle_of_empty hq]

/-- A request with nothing held back before it is taken at once (R163). -/
theorem State.request_eq {s : State} (h : s.port.held = []) (p : PortTag) (o : Owner) (code : Byte)
    (f : ReqFields) : s.request p o code f = (s.writeDone p).takeRequest o code f :=
  State.present_of_canTake h rfl

/-! ### Slots (R18) -/

@[simp] theorem Slot.content_addTag (x : Slot) (t : Nat) : (x.addTag t).content = x.content := rfl

@[simp] theorem Slot.holders_addTag (x : Slot) (t : Nat) :
    (x.addTag t).holders = x.holders ||| tagBit t := rfl

@[simp] theorem Slot.holders_settle (x : Slot) : x.settle.holders = x.holders := by
  unfold Slot.settle
  split
  · split <;> rfl
  · rfl

@[simp] theorem Slot.holders_removeTag (x : Slot) (t : Nat) :
    (x.removeTag t).holders = x.holders &&& ~~~(tagBit t) := by simp [Slot.removeTag]

/-! ### One step -/

theorem step_cons (s : State) (i : Instr) (rest : List Instr) (h : s.pending = i :: rest) :
    step s = exec i { s with pending := rest } := by
  simp [step, h]

theorem step_nil (s : State) (h : s.pending = []) : step s = .next s := by simp [step, h]

/-! ### Responses (R156) -/

/-- What the split of waiting responses gives: both parts in their order, the returned ones complete and of streams
that nothing holds up, each stream's returned ones before those that stay, and no stream left with its turn come. -/
theorem splitReturns_spec (rs : List Resp) (blocked : List (Fin 16)) :
    (splitReturns rs blocked).1.Sublist rs ∧ (splitReturns rs blocked).2.Sublist rs ∧
      (∀ r ∈ (splitReturns rs blocked).2, r.complete = true ∧ r.stream ∉ blocked) ∧
      ∀ k, (rs.filter fun r => r.stream == k) =
          ((splitReturns rs blocked).2.filter fun r => r.stream == k) ++
            ((splitReturns rs blocked).1.filter fun r => r.stream == k) ∧
        (k ∉ blocked → ∀ r, ((splitReturns rs blocked).1.filter fun r => r.stream == k).head? = some r →
          r.complete = false) := by
  induction rs generalizing blocked with
  | nil => simp [splitReturns]
  | cons x xs ih =>
    rw [splitReturns]
    split
    · next h =>
      obtain ⟨h1, h2, h3, h4⟩ := ih blocked
      simp only [Bool.and_eq_true, Bool.not_eq_true', List.contains_eq_mem, decide_eq_false_iff_not] at h
      refine ⟨h1.cons _, h2.cons_cons _, ?_, fun k => ⟨?_, (h4 k).2⟩⟩
      · simpa using ⟨h, fun r hr => h3 r hr⟩
      · rw [List.filter_cons, List.filter_cons, (h4 k).1]
        split <;> rfl
    · next h =>
      obtain ⟨h1, h2, h3, h4⟩ := ih (x.stream :: blocked)
      refine ⟨h1.cons_cons _, h2.cons _, fun r hr => ⟨(h3 r hr).1, fun hb => (h3 r hr).2 (.tail _ hb)⟩,
        fun k => ?_⟩
      by_cases hk : x.stream = k
      · have hout : ((splitReturns xs (x.stream :: blocked)).2.filter fun r => r.stream == k) = [] := by
          rw [List.filter_eq_nil_iff]
          intro r hr he
          exact (h3 r hr).2 (by simp_all)
        have hx : (x.stream == k) = true := by simp [hk]
        simp only [List.filter_cons, hx, if_true, (h4 k).1, hout, List.nil_append]
        refine ⟨trivial, fun hb r hr => ?_⟩
        obtain rfl : x = r := by simpa using hr
        simp_all
      · have hx : ¬(x.stream == k) = true := by simpa using hk
        simp only [List.filter_cons, hx, Bool.false_eq_true, if_false]
        refine ⟨(h4 k).1, ?_⟩
        intro hb r hr
        exact (h4 k).2 (by simp [Ne.symm hk, hb]) r hr

end Sys2Proof.Machine
end

