-- ==== Sys2Proof/Tests/Slice0.lean ====
section
/-!
SUPPORT. Tests of the model on small states: the well-formedness checks, worked values of the spec, and for
each statement with hypotheses, or clause of one, a state and operands that meet them together
(`witness_<statement>`, `witness_<clause>`).
-/
namespace Sys2Proof.Tests

open Sys2Proof.Machine

-- One theorem after another: each waits for the kernel's evaluation of those before it.
set_option Elab.async false

/-! ### Small states -/

/-- The reset state with one camera changed. -/
def withCam (c : CamId) (f : Camera → Camera) : State :=
  State.reset.setCam c (f (State.reset.cam c))

/-- The reset state with one screen changed. -/
def withScr (x : ScrId) (f : Screen → Screen) : State :=
  State.reset.setScreen x (f (State.reset.screen x))

/-- The reset state with one line changed. -/
def withLine (l : LineId) (f : Line → Line) : State :=
  State.reset.setLine l (f (State.reset.line l))

/-- The reset state with the engine changed. -/
def withEng (f : Engine → Engine) : State := State.reset.setEngine (f State.reset.engine)

/-- A frame of 64 by 2 pixels: four beats, two in a line. -/
def smallGeom : CamGeom := ⟨0x01000000, 0x04000000, 64, 2, 4⟩

/-- A LIVE camera of that geometry. -/
def liveCam (x : Camera) : Camera := { x with chan := .live, geom := smallGeom }

/-- A RUNNING screen of 64 by 16 pixels in CYCLE mode. -/
def runScr (x : Screen) : Screen :=
  { x with state := .running, geom := ⟨0x010A0000, 64, 16, .cycle⟩ }

/-- A tag of stream 0, a request of one beat. -/
def tag : PortTag := ⟨0, true⟩

/-- A beat of ones. -/
def ones : Beat := Vector.replicate 64 1

/-- A request with tag 7 and index 0. -/
def flds : ReqFields := ⟨some 7, some 0⟩

/-- The state a command answers. -/
def after (i : Instr) (s : State) : State :=
  match exec i s with
  | .next t => t
  | _ => s

/-! ### WellFormed: an ill-formed term for each check -/

theorem test_wf_unaligned_beats_refused :
    (Instr.intakeWriteBeat tag 0x01000004 ones 0).wf = false ∧
      (Instr.intakeReadBeat tag 1).wf = false ∧
      (Instr.intakeOffBeat tag 32 .read).wf = false ∧
      (Instr.screenReadBeat tag 63).wf = false ∧
      (Instr.screenWriteBeat tag 65 ones 0).wf = false ∧
      (Instr.screenOffBeat tag 2 .read).wf = false ∧ (Instr.plainBeat tag 8 .read).wf = false := by
  decide

theorem test_wf_control_area_offsets_refused :
    (Instr.configWrite tag 0x0F004000 ones 0).wf = false ∧
      (Instr.configWrite tag 0x0F000001 ones 0).wf = false ∧
      (Instr.descriptorWrite tag 0x0F003FC0 ones 0).wf = false ∧
      (Instr.descriptorWrite tag 0x0F004400 ones 0).wf = false ∧
      (Instr.descriptorWrite tag 0x0F004001 ones 0).wf = false ∧
      (Instr.attentionSummaryRead tag 0x0F008080).wf = false ∧
      (Instr.liveWriteAbsorbed tag 0x0F007FC0 ones 0).wf = false ∧
      (Instr.liveWriteAbsorbed tag 0x0F009000 ones 0).wf = false ∧
      (Instr.liveWriteAbsorbed tag 0x0F008001 ones 0).wf = false := by
  decide

theorem test_wf_codes_and_flags_refused :
    (Instr.unknownCode tag .part 1 flds).wf = false ∧
      (Instr.unknownCode tag (.camera 0) 8 flds).wf = false ∧
      (Instr.unknownCode tag (.screen 0) 3 flds).wf = false ∧
      (Instr.unknownCode tag .engine 5 flds).wf = false ∧
      (Instr.restart tag ⟨some 7, some 1⟩).wf = false ∧
      (Instr.restart tag ⟨some 7, none⟩).wf = false ∧
      (Instr.restartWaitIdle tag ⟨some 7, some 0⟩).wf = false ∧
      (Instr.restartWaitIdle tag ⟨some 7, none⟩).wf = false := by
  decide

/-- The table gives no row any bits. -/
theorem test_no_word_spells_a_command : decodeTableWord 0 0 = none ∧ decodeTableWord 16 0x1234 = none := by
  decide

/-! ### Worked values of the spec -/

/-- R51's table of baseline steps, from a baseline of 4,000. -/
theorem test_baseline_steps_of_R51 :
    baselineStep 4000 7000 2 = 4750 ∧ baselineStep 4000 7000 6 = 4046 ∧
      baselineStep 4000 4096 6 = 4001 ∧ baselineStep 4000 4063 2 = 4015 ∧
      baselineStep 4000 4063 6 = 4001 ∧ baselineStep 4000 4003 2 = 4001 ∧
      baselineStep 4000 3954 2 = 3989 ∧ baselineStep 4000 3954 6 = 3999 ∧
      baselineStep 4000 928 2 = 3232 ∧ baselineStep 4000 928 6 = 3952 := by
  decide

/-- R54: a SPIKE is forgotten and a DROPOUT filled in, only with correction on. -/
theorem test_pattern_correction_of_R54 :
    History.correct ⟨false, true, false⟩ true = ⟨false, false, false⟩ ∧
      History.correct ⟨true, false, true⟩ true = ⟨true, true, true⟩ ∧
      History.correct ⟨true, false, true⟩ false = ⟨true, false, true⟩ ∧
      History.correct ⟨true, true, false⟩ true = ⟨true, true, false⟩ := by
  decide

/-- R91: lines 0 and 2 active, only line 2 with an entrance layout: ENTRANCE 2. -/
theorem test_layout_choice_of_R91 :
    let s := { State.reset with
      lines := State.reset.lines.mapIdx fun i (x : Line) => { x with accepted := i == 0 || i == 2 } }
    let ls := { Layouts.zero with
      entrance := Layouts.zero.entrance.set 2 { Layout.zero with count := 1 } }
    s.chooseLayout ls = .entrance 2 ∧ s.chooseLayout Layouts.zero = .normal := by
  decide +kernel

/-- R175: with consumer 3 and producer 5, a written 10 sets the consumer index to 5. -/
theorem test_consumer_index_of_R175 :
    let s := { State.reset with ring := { Ring.powerOn with consumer := 3, producer := 5, lost := 9 } }
    (after (.consumerIndexWrite tag 10) s).ring.consumer = 5 ∧
      (after (.consumerIndexWrite tag 4) s).ring.consumer = 4 ∧
      (after (.consumerIndexWrite tag 3) s).ring.lost = 0 := by
  decide +kernel

/-- Chapter 12.3: CROP 100 × 50 at 100, 40 of a 640 × 480 camera stands in place 3 at 060075C0h. -/
theorem test_crop_place_of_12_3 :
    let d := { loadedOf (Vector.replicate 64 0) with
      mode := .crop, destBase := 0x06000000, places := 8, nextPlace := 3
      cropX := 100, cropY := 40, cropW := 100, cropH := 50 }
    d.rect ⟨0, 0, 640, 480, 4⟩ = ⟨100, 40, 100, 50⟩ ∧
      d.destBase + d.place * (d.rect ⟨0, 0, 640, 480, 4⟩).stride = 0x060075C0 := by
  decide +kernel

/-- R124: the rectangle is clamped to the frame. -/
theorem test_crop_clamped_by_R124 :
    let d := { loadedOf (Vector.replicate 64 0) with
      mode := .crop, cropX := 701, cropY := 900, cropW := 0, cropH := 0 }
    d.rect ⟨0, 0, 640, 480, 4⟩ = ⟨638, 479, 2, 1⟩ := by
  decide +kernel

/-- Chapter 12.2: ARM, EVAL_RUN, ENABLE and COMMIT with the settings given there are answered DONE, and the
first beat of frame 1 makes slot 0 FILLING with sequence 1. -/
theorem test_bring_up_of_12_2 :
    let s := withCam 0 fun x =>
      { x with cfg := { x.cfg with intakeBase := 0x01000000, slotBase := 0x04000000, w := 640, h := 480 } }
    let s := s.setScreen 0 { s.screen 0 with
      cfg := { (s.screen 0).cfg with base := 0x010A0000, ws := 800, hs := 480 } }
    let s := after (.arm tag 0 ⟨some 1, none⟩) s
    let s := after (.evalRun tag 0 ⟨some 2, none⟩) s
    let s := after (.enable tag 0 ⟨some 1, none⟩) s
    let s := after (.commit tag 0 ⟨some 2, none⟩) s
    let s := after (.intakeWriteBeat tag 0x01000000 ones (BitVec.allOnes 64)) s
    (s.mailbox (.camera 0)).result = .done ∧ (s.mailbox (.camera 0)).ansTag = 2 ∧
      (s.mailbox (.screen 0)).result = .done ∧ (s.mailbox (.screen 0)).ansTag = 2 ∧
      (s.cam 0).chan = .waiting ∧ (s.cam 0).eval.state = .learn ∧
      (s.screen 0).state = .waitLatch ∧ (s.cam 0).started = 1 ∧
      ((s.cam 0).slots.map Slot.content).head? = some (.filling 1 0) := by
  decide +kernel

/-- R159: after reset the first grant goes to PASS, and DRAM then holds the beat's bytes. -/
theorem test_first_grant_of_R159 :
    let s := after (.plainBeat tag 0x06000000 (.write ones 0x1)) State.reset
    let s := after .arbiterGrant s
    s.queue .pass = [] ∧ s.arb.last = .pass ∧ s.dram = [⟨0x06000000, 1⟩] := by
  decide +kernel

/-- R172, R176: a report on an enabled interrupt line asserts it once its record has been handed. -/
theorem test_interrupt_of_R176 :
    let s := { State.reset with ring := { Ring.powerOn with intEnable := true } }
    s.interrupt = false ∧ (s.report .camLive 0 0 0).interrupt = true := by
  decide +kernel

/-- R85, R99: a COMMIT on a RUNNING screen is open until DISABLE applies it. -/
theorem test_open_commit_ends_with_disable :
    let s := after (.commit tag 0 ⟨some 9, none⟩) (withScr 0 runScr)
    let t := after (.disable tag 0 ⟨some 10, none⟩) s
    (s.mailbox (.screen 0)).openTag = some 9 ∧ (s.mailbox (.screen 0)).result = .inProgress ∧
      (t.mailbox (.screen 0)).openTag = none ∧ (t.mailbox (.screen 0)).result = .done ∧
      (t.mailbox (.screen 0)).ansTag = 10 := by
  decide +kernel

/-! ### Witnesses: states and operands that meet a statement's hypotheses together -/

theorem witness_TickRaisesTimebase :
    (∀ x, State.reset.timer x ≠ some State.reset.timebase) ∧
    (let s := withCam 3 fun x => { liveCam x with lostTimer := some 0 };
      s.timer (.lost 3) = some s.timebase ∧ ∀ y, y ≠ .lost 3 → s.timer y ≠ some s.timebase) := by
  refine ⟨fun x => ?_, by decide +kernel, fun y hy => ?_⟩
  · cases x with
    | stale c => revert c; decide +kernel
    | lost c => revert c; decide +kernel
    | gap c => revert c; decide +kernel
    | filter l => revert l; decide +kernel
    | offset x => revert x; decide +kernel
    | cycle x => revert x; decide +kernel
  · cases y with
    | stale c => clear hy; revert c; decide +kernel
    | lost c => revert c; decide +kernel
    | gap c => clear hy; revert c; decide +kernel
    | filter l => clear hy; revert l; decide +kernel
    | offset x => clear hy; revert x; decide +kernel
    | cycle x => clear hy; revert x; decide +kernel

/-- A line that filters: its raw level has left the accepted one. -/
def filtering : State := withLine 0 fun x => { x with pin := true, raw := true, filterTimer := some 0 }

/-- An IDLE engine with its enable set. -/
def idle (s : State) : State := s.setEngine { s.engine with state := .idle, enable := true }

theorem witness_PinChangeFilters :
    (filtering.quiet ∧ (filtering.line 0).pin ≠ false ∧
      (false != (filtering.line 0).cfg.activeLow) = (filtering.line 0).accepted) ∧
    (let s := withLine 1 fun x => { x with cfg := { x.cfg with filterTime := 1 } };
      s.quiet ∧ (s.line 1).pin ≠ true ∧ (true != (s.line 1).cfg.activeLow) ≠ (s.line 1).accepted ∧
        (s.line 1).cfg.filterTime ≠ 0) ∧
    (let s := idle (withLine 1 fun x => { x with cfg := { x.cfg with filterTime := 0 } });
      s.quiet ∧ (s.line 1).pin ≠ true ∧ (true != (s.line 1).cfg.activeLow) ≠ (s.line 1).accepted ∧
        (s.line 1).cfg.filterTime = 0 ∧ s.engine.state = .idle ∧ s.engine.enable = true ∧
        s.engine.pending = 0 ∧ s.engine.continuation = none) :=
  ⟨⟨rfl, by decide +kernel⟩, ⟨rfl, by decide +kernel⟩, rfl, by decide +kernel⟩

theorem witness_FilterExpiryFormsEdge :
    filtering.quiet ∧ (filtering.line 0).filterTimer = some filtering.timebase ∧
      (filtering.line 0).raw ≠ (filtering.line 0).accepted :=
  ⟨rfl, by decide +kernel⟩

/-- A LIVE camera in WATCH whose timers run out now. -/
def timersOut : State :=
  withCam 3 fun x =>
    { liveCam x with
      staleTimer := some 0
      lostTimer := some 0
      eval := { x.eval with state := .watch } }

/-- A loaded copy: BURST of camera 0, three copies remaining, four places from 06000000h. -/
def burst : Loaded :=
  { loadedOf (Vector.replicate 64 0) with
    enable := true, armed := true, mode := .burst, remaining := 3, places := 4, destBase := 0x06000000 }

/-- The engine as the run of descriptor 2 with the copy and the state given. -/
def runs (st : EngState) (d : Loaded) (s : State) : State :=
  s.setEngine { s.engine with state := st, enable := true, running := some 2, loaded := some d }

theorem witness_StaleExpiryEntersStale :
    (timersOut.quiet ∧ (timersOut.cam 3).staleTimer = some timersOut.timebase ∧
      (timersOut.cam 3).chan = .live ∧ Claim.noBurst timersOut 3) ∧
    (let s := runs .waitingFrame burst (withCam 0 fun x => { liveCam x with staleTimer := some 0 });
      s.quiet ∧ (s.cam 0).staleTimer = some s.timebase ∧ (s.cam 0).chan = .live ∧
        Claim.burst s 0 2 burst) :=
  ⟨⟨rfl, by decide +kernel, by decide +kernel, fun h => absurd h (by decide +kernel)⟩, rfl,
    by decide +kernel, by decide +kernel, by unfold Claim.burst; decide +kernel⟩

/-- The ordinary way to LOST: STALE, the evaluator holding with cause STALE, or in the state given. -/
def staleThen (st : EvState) (v : Verdict) (keep : Bool) : State :=
  withCam 0 fun x =>
    { liveCam x with
      chan := .stale
      lostTimer := some 0
      cfg := { x.cfg with recovery := if keep then 1 else 0 }
      eval := { x.eval with state := st, verdict := v } }

/-- HOLD, WATCH, LEARN and RESTART_WAIT, with KEEP and with RELEARN, the verdict DIRTY where tables are
cleared; and a BURST that waits. -/
theorem witness_LostExpiryEntersLost :
    (∀ x ∈ [(EvState.hold false true .watch, Verdict.dirty, false), (.hold false true .learn, .clean, true),
        (.watch, .dirty, false), (.learn, .clean, false), (.restartWait, .clean, true)],
      let s := staleThen x.1 x.2.1 x.2.2
      Claim.lostDue s 0 ∧ Claim.noBurst s 0 ∧ (s.cam 0).eval.state = x.1 ∧
        (s.cam 0).cfg.keep = x.2.2) ∧
    (let s := runs .waitingFrame burst (staleThen .off .clean false);
      Claim.lostDue s 0 ∧ Claim.burst s 0 2 burst) := by
  refine ⟨fun x hx => ?_, ⟨rfl, by decide +kernel⟩, by unfold Claim.burst; decide +kernel⟩
  simp only [List.mem_cons, List.not_mem_nil, or_false] at hx
  obtain rfl | rfl | rfl | rfl | rfl := hx <;>
    exact ⟨⟨rfl, by decide +kernel⟩, fun h => absurd h (by decide +kernel), by decide +kernel⟩

/-- A camera with frame 5 in progress in slot 1, cursor at `n`, its gap timer running out now. -/
def inFrame (n : Nat) (target : Option Nat) : State :=
  withCam 0 fun x =>
    { liveCam x with
      slots := [⟨.ready 4 0, 0⟩, ⟨.filling 5 0, 0⟩]
      ready := [0]
      intake := some ⟨n, 0, target, false, 5, 0⟩
      gapTimer := some 0
      started := 5
      completed := 4 }

/-- The intake record of that frame. -/
def frame (n : Nat) (target : Option Nat) : IntakeRec := ⟨n, 0, target, false, 5, 0⟩

theorem witness_GapExpiryTruncates :
    let s := inFrame 1 (some 1)
    s.quiet ∧ (s.cam 0).gapTimer = some s.timebase ∧
      Claim.fills (s.cam 0) (frame 1 (some 1)) 1 5 0 0 :=
  ⟨rfl, by unfold Claim.fills; decide +kernel⟩

/-- A LIVE camera between frames, its first slot held. -/
def between : State :=
  withCam 0 fun x => { liveCam x with slots := [⟨.ready 1 0, 1⟩, ⟨.free, 0⟩], ready := [0] }

/-- It with the slots and the ready list given. -/
def betweenSlots (l : List Slot) (r : List Nat) : State :=
  between.setCam 0 { between.cam 0 with slots := l, ready := r }

theorem witness_FrameTakesFree :
    between.reaches 0 0x01000000 0 ∧ 2 ≤ (between.cam 0).geom.beatsPerLine ∧
      1 < (between.cam 0).geom.frameBeats ∧ (between.cam 0).intake = none ∧
      (between.cam 0).slots[1]? = some ⟨.free, 0⟩ ∧
      ∀ x ∈ (between.cam 0).slots.take 1, x.content ≠ .free ∨ x.holders ≠ 0 :=
  ⟨⟨rfl, by decide +kernel⟩, by decide +kernel⟩

theorem witness_FrameTakesReady :
    let s := betweenSlots [⟨.ready 1 0, 1⟩, ⟨.ready 2 0, 0⟩] [0, 1]
    s.reaches 0 0x01000000 0 ∧ 2 ≤ (s.cam 0).geom.beatsPerLine ∧ 1 < (s.cam 0).geom.frameBeats ∧
      (s.cam 0).intake = none ∧ (∀ x ∈ (s.cam 0).slots, x.content ≠ .free ∨ x.holders ≠ 0) ∧
      (s.cam 0).ready = [0] ++ 1 :: [] ∧
      (∀ k ∈ [0], (s.cam 0).slots[k]?.any (fun x => x.holders != 0) = true) ∧
      (s.cam 0).slots[1]? = some ⟨.ready 2 0, 0⟩ :=
  ⟨⟨rfl, by decide +kernel⟩, by decide +kernel⟩

theorem witness_FrameDropped :
    let s := betweenSlots [⟨.ready 1 0, 1⟩, ⟨.torn 2 0, 1⟩] [0]
    s.reaches 0 0x01000000 0 ∧ 2 ≤ (s.cam 0).geom.beatsPerLine ∧ 1 < (s.cam 0).geom.frameBeats ∧
      (s.cam 0).intake = none ∧ (∀ x ∈ (s.cam 0).slots, x.content ≠ .free ∨ x.holders ≠ 0) ∧
      ∀ k ∈ (s.cam 0).ready, (s.cam 0).slots[k]?.any (fun x => x.holders != 0) = true :=
  ⟨⟨rfl, by decide +kernel⟩, by decide +kernel⟩

/-- A frame restarted in its own slot, which nobody holds, and in another, where its own is held. -/
theorem witness_FrameRestarted :
    (let s := inFrame 1 (some 1);
      s.reaches 0 0x01000000 0 ∧ 2 ≤ (s.cam 0).geom.beatsPerLine ∧
        1 < (s.cam 0).geom.frameBeats ∧ (s.cam 0).intake = some (frame 1 (some 1)) ∧
        (s.cam 0).slots[1]? = some ⟨.filling 5 0, 0⟩ ∧
        (∀ x ∈ (s.cam 0).slots.take 1, x.content ≠ .free ∨ x.holders ≠ 0) ∧
        1 ∉ (s.cam 0).ready) ∧
    (let s := (inFrame 1 (some 1)).setCam 0
        { (inFrame 1 (some 1)).cam 0 with
          slots := [⟨.ready 4 0, 0⟩, ⟨.filling 5 0, 2⟩, ⟨.free, 0⟩] };
      s.reaches 0 0x01000000 0 ∧ 2 ≤ (s.cam 0).geom.beatsPerLine ∧
        1 < (s.cam 0).geom.frameBeats ∧ (s.cam 0).intake = some (frame 1 (some 1)) ∧
        (s.cam 0).slots[1]? = some ⟨.filling 5 0, 2⟩ ∧ (2 : BitVec 13) ≠ 0 ∧
        (s.cam 0).slots[2]? = some ⟨.free, 0⟩ ∧
        (∀ x ∈ (s.cam 0).slots.take 2, x.content ≠ .free ∨ x.holders ≠ 0) ∧
        1 ∉ (s.cam 0).ready ∧ 2 ∉ (s.cam 0).ready) :=
  ⟨⟨⟨rfl, by decide +kernel⟩, by decide +kernel⟩, ⟨rfl, by decide +kernel⟩, by decide +kernel⟩

theorem witness_InOrderBeatAdvancesFrame :
    (let s := inFrame 2 (some 1);
      s.reaches 0 0x01000080 2 ∧ 2 + 1 < (s.cam 0).geom.frameBeats ∧
        (s.cam 0).intake = some (frame 2 (some 1)) ∧
        (s.cam 0).slots[1]? = some ⟨.filling 5 0, 0⟩) ∧
    (let s := inFrame 1 (some 1);
      s.reaches 0 0x01000080 2 ∧ 2 + 1 < (s.cam 0).geom.frameBeats ∧
        (s.cam 0).intake = some (frame 1 (some 1)) ∧ 2 ≠ (frame 1 (some 1)).cursor ∧
        (s.cam 0).slots[1]? = some ⟨.filling 5 (frame 1 (some 1)).linesDone, 0⟩) ∧
    (let s := inFrame 2 none;
      s.reaches 0 0x01000080 2 ∧ 2 + 1 < (s.cam 0).geom.frameBeats ∧
        (s.cam 0).intake = some (frame 2 none) ∧ (frame 2 none).disordered = false) :=
  ⟨⟨⟨rfl, by decide +kernel⟩, by decide +kernel⟩, ⟨⟨rfl, by decide +kernel⟩, by decide +kernel⟩,
    ⟨rfl, by decide +kernel⟩, by decide +kernel⟩

/-- The camera of that frame with its last beat due, changed as given. -/
def atLast (f : Camera → Camera) : State :=
  (inFrame 3 (some 1)).setCam 0 (f ((inFrame 3 (some 1)).cam 0))

/-- The evaluator in the state and mode given. -/
def evalAs (st : EvState) (m : EvMode) (x : Camera) : Camera :=
  { x with eval := { x.eval with state := st, mode := m, eligible := 1 } }

/-- The last beat reaches that frame in every such state of the camera that follows. -/
def lastDue (s : State) : Prop := Claim.LastBeat s 0 0x010000C0 3 (frame 3 (some 1)) 1 5 0 0

theorem witness_CompletionWhileLive :
    let s := atLast id
    lastDue s ∧ Claim.NobodyWaits s ∧ (s.cam 0).chan = .live ∧ (s.cam 0).eval.state = .off :=
  ⟨⟨⟨rfl, by decide +kernel⟩, by decide +kernel⟩, by unfold Claim.NobodyWaits; decide +kernel⟩

theorem witness_CompletionEntersLive :
    (let s := atLast fun x => { x with chan := .waiting };
      lastDue s ∧ Claim.NobodyWaits s ∧ (s.cam 0).chan = .waiting ∧ (s.cam 0).eval.state = .off) ∧
    (let s := atLast fun x => { evalAs (.hold true true .watch) .pause x with chan := .lost };
      lastDue s ∧ Claim.NobodyWaits s ∧ (s.cam 0).chan = .lost ∧
        (s.cam 0).eval.state = .hold true true .watch) :=
  ⟨⟨⟨⟨rfl, by decide +kernel⟩, by decide +kernel⟩, by unfold Claim.NobodyWaits; decide +kernel⟩,
    ⟨⟨rfl, by decide +kernel⟩, by decide +kernel⟩, by unfold Claim.NobodyWaits; decide +kernel⟩

theorem witness_CompletionOfDropped :
    let s := inFrame 3 none
    s.reaches 0 0x010000C0 3 ∧ 3 + 1 = (s.cam 0).geom.frameBeats ∧
      (s.cam 0).intake = some (frame 3 none) ∧ (s.cam 0).chan = .live ∧
      (s.cam 0).eval.state = .off :=
  ⟨⟨rfl, by decide +kernel⟩, by decide +kernel⟩

/-- A hold set with `n` panes of camera 0, 32 pixels by 16 lines at the top left, from slot 0. -/
def oneSet (n : Byte) : HoldSet where
  choice := .normal
  layout := ⟨n, Vector.replicate 8 ⟨0, 1, 1, 0, 0, 0, 32, 16, 0, 0⟩⟩
  border := 4
  background := ⟨16, 128, 16, 128⟩
  lost := ⟨128, 128, 128, 128⟩
  stale := ⟨210, 16, 210, 146⟩
  warn := ⟨81, 90, 81, 240⟩
  cams := (Vector.replicate 6 none).set 0 (some ⟨some 0, none, .none⟩)

/-- The set with the slot of the frame in progress as primary and slot 0 as fallback. -/
def earlySet : HoldSet :=
  { oneSet 1 with cams := (Vector.replicate 6 none).set 0 (some ⟨some 1, some 0, .none⟩) }

/-- An entry of a composition table, FETCHING under the role given. -/
def fetchEntry (r : SetRole) (plan : List PlanItem) (n : Nat) : Entry :=
  ⟨0, 0, ⟨0, 0⟩, 0, .fetching r plan n⟩

/-- A fetch for entry 0 of screen 0. -/
def oneFetch : Fetch := ⟨0, 0, 0, 0, 0x04000000⟩

/-- A screen that shows the early set while the last beat is due. -/
def earlyShown : State :=
  (atLast id).setScreen 0 { runScr ((atLast id).screen 0) with active := some earlySet }

theorem witness_CompletionReleasesFallback :
    let s := earlyShown
    lastDue s ∧ s.engine.state ≠ .waitingFrame ∧ (s.cam 0).chan = .live ∧
      (s.cam 0).eval.state = .off ∧ s.fetchWait = [] ∧
      (∀ y, (s.screen y).retiring = none ∧
        (s.screen y).active = if y = 0 then some earlySet else none) ∧
      earlySet.cams[(0 : CamId)] = some ⟨some 1, some 0, .none⟩ ∧
      (s.cam 0).slots[0]? = some ⟨.ready 4 0, 0⟩ :=
  ⟨⟨⟨rfl, by decide +kernel⟩, by decide +kernel⟩, by decide +kernel⟩

theorem witness_WaitingFetchFollows :
    let e := fetchEntry .active [] 1
    let s := { earlyShown.setScreen 0 { earlyShown.screen 0 with table := [e] } with
      fetchWait := [oneFetch] }
    lastDue s ∧ (s.cam 0).chan = .live ∧ (s.cam 0).eval.state = .off ∧
      s.engine.state ≠ .waitingFrame ∧ (s.screen 0).active = some earlySet ∧
      (∀ y, (s.screen y).retiring = none ∧ (y ≠ 0 → (s.screen y).active = none)) ∧
      earlySet.cams[(0 : CamId)] = some ⟨some 1, some 0, .none⟩ ∧ (s.screen 0).table = [e] ∧
      s.fetchWait = [⟨0, e.id, 0, 0, (s.cam 0).geom.slotAddr 0 + 0⟩] :=
  ⟨⟨⟨rfl, by decide +kernel⟩, by decide +kernel⟩, by decide +kernel⟩

theorem witness_CompletionFeedsBurst :
    let s := runs .waitingFrame burst (atLast id)
    lastDue s ∧ (s.cam 0).chan = .live ∧ (s.cam 0).eval.state = .off ∧
      (∀ y, (s.screen y).active = none ∧ (s.screen y).retiring = none) ∧
      s.engine.state = .waitingFrame ∧ s.engine.loaded = some burst ∧
      burst.camera = (0 : CamId).val ∧ burst.mode = .burst :=
  ⟨⟨⟨rfl, by decide +kernel⟩, by decide +kernel⟩, by decide +kernel⟩

/-- Where the evaluator learns or watches at the completion: LIVE; the first frame after ARM, WAITING; STALE, the
hold's one cause. -/
def judging : List (Channel × EvState) :=
  [(.live, .watch), (.waiting, .learn), (.stale, .hold false true .learn),
    (.lost, .hold false true .watch)]

/-- The counts from which a completion may be counted, as a list. -/
theorem counts_iff (e : Evaluator) (m : Nat) : Claim.counts e m ↔ m ∈ e.eligible :: e.relearnCount.toList := by
  simp [Claim.counts]

/-- With an evaluate interval of 3 the second eligible frame is counted alone. -/
theorem witness_CompletionCounted :
    ∀ x ∈ judging,
      let s := atLast fun y =>
        { evalAs x.2 .run y with chan := x.1, cfg := { y.cfg with evalInterval := 3 } }
      lastDue s ∧ Claim.NobodyWaits s ∧ (s.cam 0).chan ≠ .disarmed ∧
        (Claim.resumed (s.cam 0) = .learn ∨ Claim.resumed (s.cam 0) = .watch) ∧
        (frame 3 (some 1)).disordered = false ∧
        ∀ m, Claim.counts (s.cam 0).eval m → m + 1 < (s.cam 0).cfg.interval := by
  intro x hx
  simp only [judging, List.mem_cons, List.not_mem_nil, or_false] at hx
  simp only [counts_iff]
  obtain rfl | rfl | rfl | rfl := hx <;>
    exact ⟨⟨⟨rfl, by decide +kernel⟩, by decide +kernel⟩,
      by unfold Claim.NobodyWaits; decide +kernel⟩

/-- With an interval of 2 it is evaluated, fit and unfit by the bright ceiling. -/
theorem witness_FrameEvaluated :
    ∀ x ∈ judging, ∀ ceiling ∈ [(248 : Byte), 0],
      let s := atLast fun y =>
        { evalAs x.2 .run y with
          chan := x.1, cfg := { y.cfg with darkFloor := 0, brightCeiling := ceiling } }
      lastDue s ∧ Claim.NobodyWaits s ∧ (s.cam 0).chan ≠ .disarmed ∧
        (frame 3 (some 1)).disordered = false ∧
        (Claim.resumed (s.cam 0) = .learn ∨ Claim.resumed (s.cam 0) = .watch) ∧
        ∀ m, Claim.counts (s.cam 0).eval m → (s.cam 0).cfg.interval ≤ m + 1 := by
  intro x hx y hy
  simp only [judging, List.mem_cons, List.not_mem_nil, or_false] at hx hy
  simp only [counts_iff]
  obtain rfl | rfl | rfl | rfl := hx <;> obtain rfl | rfl := hy <;>
    exact ⟨⟨⟨rfl, by decide +kernel⟩, by decide +kernel⟩,
      by unfold Claim.NobodyWaits; decide +kernel⟩

/-- R39, R47: a RELEARN clears the eligibility count, and with a tick between them, or a hold that EVAL_RUN ends, the
completion is the first frame counted anew; R68, row 1: with an interval of 1 it is evaluated as the first
learning frame. -/
theorem test_relearn_before_completion :
    let base := fun st (interval : Byte) => after (.relearn tag 0 flds) (atLast fun y =>
      let y := evalAs st .run y
      { y with
        gapTimer := none
        cfg := { y.cfg with darkFloor := 0, evalInterval := interval }
        eval := { y.eval with eligible := 1 } })
    let last := fun s => (after (.intakeWriteBeat tag 0x010000C0 ones (BitVec.allOnes 64)) s |>.cam 0).eval
    let tick := last (after .timebaseTick (base .watch 2))
    let held := last (after (.evalRun tag 0 flds) (base (.hold true false .watch) 2))
    let each := last (after .timebaseTick (base .watch 1))
    ((base .watch 2).cam 0).eval.eligible = 0 ∧ tick.learnProgress = 0 ∧ tick.eligible = 1 ∧
      held.learnProgress = 0 ∧ held.eligible = 1 ∧ each.learnProgress = 1 := by
  decide +kernel

/-- A RELEARN of the same moment has cleared an eligibility count of 1. -/
theorem witness_FrameAfterRelearn :
    let s := atLast fun y =>
      let y := evalAs .learn .run y
      { y with eval := { y.eval with eligible := 0, relearnCount := some 1 } }
    lastDue s ∧ Claim.NobodyWaits s ∧ (s.cam 0).chan ≠ .disarmed ∧ (frame 3 (some 1)).disordered = false ∧
      Claim.resumed (s.cam 0) = .learn ∧ (s.cam 0).eval.relearnCount = some 1 :=
  ⟨⟨⟨rfl, by decide +kernel⟩, by decide +kernel⟩, by unfold Claim.NobodyWaits; decide +kernel⟩

/-- The wait goes on, and ends in mode RUN and in mode PAUSE. -/
theorem witness_RestartCounted :
    ∀ x ∈ [(EvMode.run, (25 : Byte)), (.run, 1), (.pause, 1)],
      let s := atLast fun y =>
        { evalAs .restartWait x.1 y with
          chan := .lost, cfg := { y.cfg with restartDelay := x.2 } }
      lastDue s ∧ Claim.NobodyWaits s ∧ (s.cam 0).chan ≠ .disarmed ∧
        (s.cam 0).eval.state = .restartWait ∧ (s.cam 0).eval.verdict = .clean ∧
        (s.cam 0).eval.mode = x.1 ∧ x.1 ≠ .stop ∧
        (s.cam 0).cfg.restartDelay = x.2 := by
  intro x hx
  simp only [List.mem_cons, List.not_mem_nil, or_false] at hx
  obtain rfl | rfl | rfl := hx <;>
    exact ⟨⟨⟨rfl, by decide +kernel⟩, by decide +kernel⟩,
      by unfold Claim.NobodyWaits; decide +kernel⟩

/-- A DISARMED camera and a DISABLED screen that keep their windows. -/
def dormant : State :=
  (withCam 0 fun x => { x with geom := smallGeom }).setScreen 0
    { State.reset.screen 0 with geom := ⟨0x010A0000, 64, 16, .cycle⟩ }

theorem witness_AbsorbedWritesChangeNothing :
    (between.quiet ∧ between.classify (beatBase 0x01000100) = .intake 0 ∧
      (between.cam 0).geom.frameBeats ≤
        (beatBase 0x01000100 - (between.cam 0).geom.intakeBase) / 64) ∧
    (between.classify (beatBase 0x01000040) = .intake 0 ∧
      (beatBase 0x01000040 - (between.cam 0).geom.intakeBase) / 64 ≠ 0 ∧
      (between.cam 0).intake = none) ∧
    dormant.quiet ∧ dormant.classify (beatBase 0x01000000) = .intakeOff 0 ∧
      dormant.classify (beatBase 0x010A0000) = .screenOff 0 :=
  ⟨⟨rfl, by decide +kernel⟩, by decide +kernel, rfl, by decide +kernel⟩

theorem witness_DormantReadsAnswered :
    dormant.quiet ∧ dormant.classify (beatBase 0x01000FC0) = .intakeOff 0 ∧
      dormant.classify (beatBase 0x010A0FC0) = .screenOff 0 :=
  ⟨rfl, by decide +kernel⟩

theorem witness_IntakeReadFollowsSlot :
    (let s := inFrame 1 (some 1);
      s.quiet ∧ s.classify (beatBase 0x01000000) = .intake 0 ∧ s.room .intake = true ∧
        ∃ r, (s.cam 0).intake = some r ∧ r.target = some 1) ∧
    (between.quiet ∧ between.classify (beatBase 0x01000FC0) = .intake 0 ∧
      (∀ r, (between.cam 0).intake = some r → r.target = none) ∧
      (between.cam 0).ready.getLast? = some 0) ∧
    (let s := withCam 0 liveCam;
      s.quiet ∧ s.classify (beatBase 0x01000000) = .intake 0 ∧ (s.cam 0).ready = [] ∧
        ∀ r, (s.cam 0).intake = some r → r.target = none) := by
  have hb : (between.cam 0).intake = none := by decide +kernel
  have hl : ((withCam 0 liveCam).cam 0).intake = none := by decide +kernel
  refine ⟨⟨rfl, by decide +kernel, by decide +kernel, _, rfl, rfl⟩,
    ⟨rfl, by decide +kernel, ?_, by decide +kernel⟩,
    rfl, by decide +kernel, by decide +kernel, ?_⟩
  · intro r h; rw [hb] at h; cases h
  · intro r h; rw [hl] at h; cases h

/-- One read in flight, with zeros for its bytes. -/
def inFlight (o : ReadOwner) (s : State) : State :=
  { s with reads := [⟨o, 0x04000000, Vector.replicate 64 0⟩] }

theorem witness_ReadReturnsFormBeats :
    (let s := inFlight (.pass ⟨0, 0⟩) State.reset;
      s.quiet ∧ s.reads = [⟨.pass ⟨0, 0⟩, 0x04000000, Vector.replicate 64 0⟩]) ∧
    (let s := inFlight (.intake ⟨0, 0⟩) State.reset;
      s.quiet ∧ s.reads = [⟨.intake ⟨0, 0⟩, 0x04000000, Vector.replicate 64 0⟩]) :=
  ⟨⟨rfl, rfl⟩, rfl, rfl⟩

/-- The responses returned: stream, direction, and the first byte of each beat. -/
def shown (s : State) : List (Nat × Bool × List Nat) :=
  s.port.returned.map fun r =>
    (r.stream.val, r.isWrite, r.beats.map fun b => b.elim 256 fun b => (beatByte b.data 0).toNat)

/-- On stream 3 a read of two beats and a write accepted after it, on stream 4 a write; the reads return in the other
order. -/
def twoStreams : State :=
  let s := after (.plainBeat ⟨3, false⟩ 0x06000000 .read) State.reset
  let s := after (.plainBeat ⟨3, true⟩ 0x06000040 .read) s
  let s := after (.plainBeat ⟨3, true⟩ 0x06000080 (.write ones 1)) s
  let s := after (.plainBeat ⟨4, true⟩ 0x060000C0 (.write ones 1)) s
  { s with
    reads := [⟨.pass ⟨0, 1⟩, 0x06000040, ones⟩, ⟨.pass ⟨0, 0⟩, 0x06000000, Vector.replicate 64 0⟩] }

/-- R149, R156: the write of stream 4 is returned at once; the read once its second beat is formed, its beats in
address order, and then the write that waited for it. -/
theorem test_responses_of_two_streams :
    let t := after .passReadReturn twoStreams
    shown twoStreams = [(4, true, [])] ∧ shown t = shown twoStreams ∧
      shown (after .passReadReturn t) =
        [(4, true, []), (3, false, [0, 1]), (3, true, [])] := by
  decide +kernel

/-- A screen in SYNC mode, its offset time, offset timer and retiring set as given. -/
def syncScr (time : BitVec 16) (e : Option Time) (r : Option HoldSet) : State :=
  withScr 0 fun x =>
    { runScr x with
      geom := ⟨0x010A0000, 64, 16, .sync⟩
      cfg := { x.cfg with offsetTime := time }
      retiring := r
      offsetTimer := e }

theorem witness_SyncEdgeHandled :
    (State.reset.quiet ∧ (State.reset.screen 0).sync ≠ true ∧
      (State.reset.screen 0).state = .disabled) ∧
    (∀ x ∈ [((1 : BitVec 16), some (5 : Time), none), (1, none, none), (0, none, none),
        (0, none, some (oneSet 1))],
      let s := syncScr x.1 x.2.1 x.2.2
      (s.screen 0).sync ≠ true ∧ (s.screen 0).state ≠ .disabled ∧
        (s.screen 0).geom.mode = .sync ∧ true ≠ (s.screen 0).cfg.falling ∧
        (s.screen 0).offsetTimer = x.2.1 ∧ (s.screen 0).cfg.offsetTime = x.1 ∧
        (s.screen 0).retiring = x.2.2) ∧
    ∀ a b c, (syncScr a b c).quiet :=
  ⟨⟨rfl, by decide +kernel⟩, by decide +kernel, fun _ _ _ => rfl⟩

/-- A screen in WAIT_LATCH, with no set and no choice; a RUNNING one whose set retires; and one whose retiring set
has not been released. -/
theorem witness_ExpiryPerformsLatch :
    (let s := syncScr 1 (some 0) none;
      let s := s.setScreen 0 { s.screen 0 with state := .waitLatch, pendingCommit := some 4 };
      s.quiet ∧ (s.screen 0).retiring = none ∧ s.timer (.offset 0) = some s.timebase ∧
        (s.screen 0).active = none ∧ (s.screen 0).choice = none) ∧
    (let s := withScr 0 fun x =>
        { runScr x with
          cycleTimer := some 0
          active := some (oneSet 1)
          choice := some .normal
          table := [fetchEntry .active [] 1] };
      s.quiet ∧ (s.screen 0).retiring = none ∧ s.timer (.cycle 0) = some s.timebase ∧
        (s.screen 0).active = some (oneSet 1) ∧ (s.screen 0).keepsOld = true) ∧
    (let s := withScr 0 fun x =>
        { runScr x with cycleTimer := some 0, active := some (oneSet 1), retiring := some (oneSet 2) };
      s.quiet ∧ (s.screen 0).retiring.isSome = true ∧ s.timer (.cycle 0) = some s.timebase) :=
  ⟨⟨rfl, by decide +kernel⟩, ⟨rfl, by decide +kernel⟩, rfl, by decide +kernel⟩

/-- A RUNNING screen that shows the set with `n` panes, beside a LIVE camera. -/
def showing (n : Byte) : State :=
  between.setScreen 0 { runScr (between.screen 0) with active := some (oneSet n) }

/-- A screen in READ_START mode, enabled, its state, sets and owed flag as given. -/
def readScr (st : ScrState) (a r : Option HoldSet) (owed : Bool) : State :=
  between.setScreen 0
    { between.screen 0 with
      state := st, geom := ⟨0x010A0000, 64, 16, .readStart⟩, active := a, retiring := r, owed := owed }

theorem witness_ScreenReadAnsweredAtOnce :
    (let s := withScr 0 fun x => { runScr x with state := .waitLatch };
      Claim.reads s 0 0x010A0000 ∧ (s.screen 0).geom.mode ≠ .readStart ∧
        (s.screen 0).state = .waitLatch) ∧
    (let s := showing 0;
      Claim.reads s 0 0x010A07C0 ∧
        ¬(s.screen 0).readDue (((Claim.seen s 0 0x010A07C0).lastLine).getD 0) ∧
        (s.screen 0).geom.mode ≠ .readStart ∧ (s.screen 0).state = .running ∧
        (s.screen 0).active = some (oneSet 0) ∧ (oneSet 0).layout.count = 0) ∧
    (let s := readScr .waitLatch none none false;
      Claim.reads s 0 0x010A0000 ∧ (s.screen 0).retiring = none ∧ (s.screen 0).owed = false ∧
        (s.screen 0).readDue (((Claim.seen s 0 0x010A0000).lastLine).getD 0)) ∧
    (let s := readScr .running (some (oneSet 1)) (some (oneSet 2)) false;
      Claim.reads s 0 0x010A0000 ∧ (s.screen 0).geom.mode = .readStart ∧
        (s.screen 0).readDue (((Claim.seen s 0 0x010A0000).lastLine).getD 0) ∧
        (s.screen 0).retiring.isSome = true) :=
  ⟨⟨⟨rfl, by decide +kernel⟩, by decide +kernel⟩,
    ⟨⟨rfl, by decide +kernel⟩, by unfold Screen.readDue; decide +kernel⟩,
    ⟨⟨rfl, by decide +kernel⟩, by unfold Screen.readDue; decide +kernel⟩,
    ⟨rfl, by decide +kernel⟩, by unfold Screen.readDue; decide +kernel⟩

theorem witness_ScreenReadSendsFetch :
    let s := showing 1
    Claim.reads s 0 0x010A0000 ∧
      ¬(s.screen 0).readDue (((Claim.seen s 0 0x010A0000).lastLine).getD 0) ∧
      (s.screen 0).geom.mode ≠ .readStart ∧
      (s.screen 0).state = .running ∧ (s.screen 0).active = some (oneSet 1) ∧ s.fetchWait = [] ∧
      planBeats (s.plan (s.screen 0).geom (oneSet 1)
        (Claim.arrived s tag 0 0x010A0000).offset) = [(0, 0, 0x04000000)] :=
  ⟨⟨rfl, by decide +kernel⟩, by unfold Screen.readDue; decide +kernel⟩

/-- A set with two panes of a STALE camera, 32 pixels at 0 and, mirrored, 16 pixels at 24, both 16 lines high; slot
0 is the primary and slot 1 the fallback. -/
def twoPanes : HoldSet :=
  { oneSet 2 with
    layout := ⟨2, (Vector.replicate 8 Pane.zero).set 0 ⟨0, 1, 1, 0, 0, 0, 32, 16, 0, 0⟩ |>.set 1
      ⟨0, 0, 0, 1, 24, 0, 16, 16, 0, 0⟩⟩
    cams := (Vector.replicate 6 none).set 0 (some ⟨some 0, some 1, .stale⟩) }

/-- The camera with the primary torn after `n` lines. -/
def tornAt (n : Nat) : State := betweenSlots [⟨.torn 1 n, 1⟩, ⟨.ready 2 0, 1⟩] [1]

/-- R107 to R114 on lines 4 and 15 of a screen of 64 by 16 pixels: the border ends at distance 4, the later pane is on
top, a mirrored pane runs backwards, a line below lines done is the primary's and the first at it the fallback's,
and the padding is background. Source line 4 clamps to 1. -/
theorem test_plan_of_two_panes :
    let g : ScrGeom := ⟨0x010A0000, 64, 16, .cycle⟩
    let stale : PlanItem := .colour twoPanes.stale
    let back : PlanItem := .colour twoPanes.background
    let src := fun j x b => PlanItem.source ⟨0, j, 0x04000000 + j * 4096 + (64 + x) * 2, b⟩ none
    (∀ j ∈ [0, 1],
      let s := tornAt (2 - j)
      s.plan g twoPanes (4 * 128) =
        [stale, stale] ++ (List.range 10).map (fun i => src j (4 + 2 * i) false) ++
          [stale, stale, src j 10 true, src j 8 true] ∧
      s.plan g twoPanes (4 * 128 + 64) =
        [src j 6 true, src j 4 true, stale, stale] ++ List.replicate 12 back) ∧
    (tornAt 2).plan g twoPanes (15 * 128) = List.replicate 16 stale ∧
    (tornAt 2).plan g twoPanes (16 * 128) = List.replicate 16 back := by
  decide +kernel

theorem witness_ScreenWriteCounted :
    let s := showing 1
    s.quiet ∧ s.classify (beatBase 0x010A0FC0) = .screen 0 ∧ (s.screen 0).misuse = false :=
  ⟨rfl, by decide +kernel⟩

/-- Two ranges share a byte, as a test. -/
def shares (r q : Claim.Span) : Bool :=
  decide (0 < r.2 ∧ 0 < q.2 ∧ r.1 < q.1 + q.2 ∧ q.1 < r.1 + r.2)

theorem share_iff (r q : Claim.Span) : Claim.share r q ↔ shares r q = true := by
  rw [shares, decide_eq_true_eq]
  exact ⟨fun ⟨_, _, _⟩ => by omega, fun _ => ⟨max r.1 q.1, by omega⟩⟩

/-- A range meets an armed camera other than the one given. -/
def meetsCams (s : State) (r : Claim.Span) (c : Option CamId) : Bool :=
  decide (∃ e, some e ≠ c ∧ (s.cam e).chan ≠ .disarmed ∧
    (shares r (Claim.window (s.cam e).geom) = true ∨ shares r (Claim.area (s.cam e).geom) = true))

/-- A range meets the slot area of a DISARMED camera other than the one given, one of whose slots is held. -/
def meetsHeld (s : State) (r : Claim.Span) (c : Option CamId) : Bool :=
  decide (∃ e, some e ≠ c ∧ (s.cam e).chan = .disarmed ∧ (∃ q ∈ (s.cam e).slots, q.holders ≠ 0) ∧
    shares r (Claim.area (s.cam e).geom) = true)

/-- A range meets an enabled screen other than the one given. -/
def meetsScrs (s : State) (r : Claim.Span) (x : Option ScrId) : Bool :=
  decide (∃ y, some y ≠ x ∧ (s.screen y).state ≠ .disabled ∧ shares r (Claim.view (s.screen y).geom) = true)

/-- A range meets the control area or ends above the highest address. -/
def meetsRest (s : State) (r : Claim.Span) : Bool :=
  decide (shares r (Claim.control s) = true ∨ 2 ^ 40 < r.1 + r.2)

/-- The OVERLAP check of ARM, as a test. -/
theorem armClashes_iff (s : State) (c : CamId) (g : CamGeom) :
    Claim.armClashes s c g ↔ (shares (Claim.window g) (Claim.area g) ||
      [Claim.window g, Claim.area g].any fun r =>
        meetsCams s r (some c) || (meetsHeld s r (some c) || (meetsScrs s r none || meetsRest s r))) =
          true := by
  simp only [Claim.armClashes, Claim.meetsArmed, Claim.meetsHeld, Claim.meetsShown, share_iff, meetsCams,
    meetsHeld, meetsScrs, meetsRest, List.any_eq_true, List.mem_cons, List.not_mem_nil, or_false,
    Bool.or_eq_true, decide_eq_true_eq, ne_eq, Option.some.injEq, reduceCtorEq, not_false_eq_true, true_and]

/-- The destination check of a run, as a test. -/
theorem destClashes_iff (s : State) (r : Claim.Span) :
    Claim.destClashes s r ↔
      (meetsCams s r none || (meetsHeld s r none || (meetsScrs s r none || meetsRest s r))) = true := by
  simp only [Claim.destClashes, Claim.meetsArmed, Claim.meetsHeld, Claim.meetsShown, share_iff, meetsCams,
    meetsHeld, meetsScrs, meetsRest, Bool.or_eq_true, decide_eq_true_eq, ne_eq, reduceCtorEq,
    not_false_eq_true, true_and]

/-- The result of the first check of a load that fails, as a test. -/
def failing (s : State) (x : Loaded) : Option Byte :=
  if x.remaining = 0 then some 2
  else match x.cam with
    | none => some 4
    | some c =>
      let g := (s.cam c).geom
      let d := Claim.destination x g
      if (s.cam c).chan ≠ .disarmed ∧
        (meetsCams s d none || (meetsHeld s d none || (meetsScrs s d none || meetsRest s d))) = true then some 3
      else if (s.cam c).chan = .disarmed ∨ (s.cam c).chan = .lost ∨ (s.cam c).ready = [] then some 4
      else none

theorem checkFails_iff (s : State) (x : Loaded) (r : Option Byte) :
    Claim.checkFails s x r ↔ r = failing s x := by
  unfold Claim.checkFails failing
  split
  · rfl
  · cases x.cam with
    | none => rfl
    | some c =>
      simp only [destClashes_iff]
      generalize (meetsCams s _ none || _) = bad
      split_ifs <;> simp_all

/-- The OVERLAP check of ENABLE, as a test. -/
theorem enableClashes_iff (s : State) (x : ScrId) (g : ScrGeom) :
    Claim.enableClashes s x g ↔ (meetsScrs s (Claim.view g) (some x) ||
      (meetsCams s (Claim.view g) none || meetsRest s (Claim.view g))) = true := by
  simp only [Claim.enableClashes, Claim.meetsArmed, Claim.meetsShown, share_iff, meetsCams, meetsScrs,
    meetsRest, Bool.or_eq_true, decide_eq_true_eq, ne_eq, Option.some.injEq, reduceCtorEq,
    not_false_eq_true, true_and]

/-- A DISABLED screen whose settings pass the checks. -/
def enableable : State :=
  withScr 0 fun x => { x with cfg := { x.cfg with base := 0x010A0000, ws := 64, hs := 16 } }

theorem witness_EnableLocksGeometry :
    enableable.quiet ∧ (enableable.screen 0).state = .disabled ∧
      Claim.scrFits (enableable.screen 0).cfg.geom ∧
      ¬Claim.enableClashes enableable 0 (enableable.screen 0).cfg.geom ∧
      (enableable.screen 0).active = none ∧ (enableable.screen 0).retiring = none := by
  rw [enableClashes_iff]
  unfold Claim.scrFits
  exact ⟨rfl, by decide +kernel⟩

theorem witness_DisableEndsScreen :
    (let s := showing 1
    s.quiet ∧ (s.screen 0).state ≠ .disabled ∧ (s.screen 0).table = []) ∧
    State.reset.quiet ∧ (State.reset.screen 0).state = .disabled :=
  ⟨⟨rfl, by decide +kernel⟩, rfl, by decide +kernel⟩

theorem witness_CommitByState :
    (State.reset.quiet ∧ (State.reset.screen 0).state ≠ .running) ∧
    (let s := showing 1;
      s.quiet ∧ (s.screen 0).state = .running ∧ (s.screen 0).pendingCommit = none) ∧
    (let s := withScr 0 fun x => { runScr x with pendingCommit := some 7 };
      s.quiet ∧ (s.screen 0).state = .running ∧ (s.screen 0).pendingCommit.isSome = true) :=
  ⟨⟨rfl, by decide +kernel⟩, ⟨rfl, by decide +kernel⟩, rfl, by decide +kernel⟩

theorem witness_WaitingFetchHanded :
    let s := { State.reset with fetchWait := [oneFetch] }
    s.quiet ∧ s.fetchWait = oneFetch :: [] ∧ s.room .compose = true :=
  ⟨rfl, by decide +kernel⟩

/-- Sixteen macropixels of the beat that the fetch brings. -/
def onePlan : List PlanItem := List.replicate 16 (.source ⟨0, 0, 0x04000000, false⟩ none)

/-- The fetch in flight, its screen's table, state, sets and owed flag as given. -/
def fetching (table : List Entry) (st : ScrState) (r : Option HoldSet) (owed : Bool) : State :=
  inFlight (.compose oneFetch)
    (between.setScreen 0
      { runScr (between.screen 0) with
        state := st, table := table, active := some (oneSet 1), retiring := r, owed := owed })

theorem onePlan_completes : Claim.completes oneFetch onePlan :=
  ⟨rfl, fun it h => by obtain rfl := List.eq_of_mem_replicate h; exact ⟨rfl, rfl, rfl, rfl⟩⟩

theorem fetching_fetched (e : Entry) (post : List Entry) (st : ScrState) (r : Option HoldSet)
    (owed : Bool) (h : e.id = 0) (hp : ∀ q ∈ post, q.id ≠ 0) :
    Claim.fetched (fetching (e :: post) st r owed) oneFetch 0x04000000 (Vector.replicate 64 0) [] []
      post e :=
  ⟨rfl, rfl, rfl, h, hp⟩

theorem witness_FetchNotLast :
    let e := fetchEntry .active onePlan 2
    Claim.fetched (fetching [e] .running none false) oneFetch 0x04000000 (Vector.replicate 64 0) [] []
      [] e ∧ e.state = .fetching .active onePlan (0 + 2) :=
  ⟨fetching_fetched _ _ _ _ _ rfl (by simp), rfl⟩

theorem witness_FetchLast :
    let e := fetchEntry .active onePlan 1
    Claim.fetched (fetching [e] .running none false) oneFetch 0x04000000 (Vector.replicate 64 0) [] []
      [] e ∧ e.state = .fetching .active onePlan 1 ∧ Claim.completes oneFetch onePlan ∧
      ((fetching [e] .running none false).screen oneFetch.screen).state ≠ .disabled :=
  ⟨fetching_fetched _ _ _ _ _ rfl (by simp), rfl, onePlan_completes, by decide +kernel⟩

theorem witness_FetchReleasesSet :
    (let e := fetchEntry .retiring onePlan 1
    let s := fetching [e] .running (some (oneSet 2)) false
    Claim.fetched s oneFetch 0x04000000 (Vector.replicate 64 0) [] [] [] e ∧
      Claim.completes oneFetch onePlan ∧ (s.screen oneFetch.screen).owed = false ∧
      (s.screen oneFetch.screen).retiring = some (oneSet 2)) ∧
    (let e := fetchEntry .active onePlan 1
    let s := fetching [e] .disabled none false
    Claim.fetched s oneFetch 0x04000000 (Vector.replicate 64 0) [] [] [] e ∧
      Claim.completes oneFetch onePlan ∧ (s.screen oneFetch.screen).owed = false ∧
      (s.screen oneFetch.screen).active = some (oneSet 1) ∧
      (s.screen oneFetch.screen).state = .disabled) :=
  ⟨⟨fetching_fetched _ _ _ _ _ rfl (by simp), onePlan_completes, by decide +kernel⟩,
    fetching_fetched _ _ _ _ _ rfl (by simp), onePlan_completes, by decide +kernel⟩

theorem witness_FetchPerformsOwed :
    let e := fetchEntry .retiring onePlan 1
    let s := fetching [e] .running (some (oneSet 2)) true
    Claim.fetched s oneFetch 0x04000000 (Vector.replicate 64 0) [] [] [] e ∧
      Claim.completes oneFetch onePlan ∧ (s.screen oneFetch.screen).owed = true ∧
      (s.screen oneFetch.screen).retiring = some (oneSet 2) :=
  ⟨fetching_fetched _ _ _ _ _ rfl (by simp), onePlan_completes, by decide +kernel⟩

theorem witness_FetchComposesWaiting :
    let e := fetchEntry .retiring onePlan 1
    let w : Entry := ⟨1, 0, ⟨1, 0⟩, 0, .waiting⟩
    let s := fetching [e, w] .running (some (oneSet 2)) true
    Claim.fetched s oneFetch 0x04000000 (Vector.replicate 64 0) [] [] [w] e ∧
      Claim.completes oneFetch onePlan ∧ (∀ q ∈ [] ++ [w], q.under .retiring = false) ∧
      waitingOf ([] ++ [w]) = [w] ∧ (s.screen oneFetch.screen).owed = true ∧
      (s.screen oneFetch.screen).retiring = some (oneSet 2) :=
  ⟨fetching_fetched _ _ _ _ _ rfl (by simp), onePlan_completes, by decide, by decide,
    by decide +kernel⟩

/-- DISABLE may find a read in flight under each set and one that waits. -/
theorem witness_DisableEndsScreen_in_flight :
    let s := fetching [fetchEntry .retiring onePlan 1, ⟨1, 0, ⟨1, 0⟩, 0, .waiting⟩] .running
      (some (oneSet 2)) true
    s.quiet ∧ (s.screen 0).state ≠ .disabled ∧ (s.screen 0).active = some (oneSet 1) ∧
      (waitingOf (s.screen 0).table).length = 1 ∧
      Claim.kept (s.screen 0) .retiring = some (oneSet 2) :=
  ⟨rfl, by decide +kernel⟩

/-- A DISARMED camera whose settings pass the checks. -/
def armable : State :=
  withCam 0 fun x =>
    { x with cfg := { x.cfg with intakeBase := 0x01000000, slotBase := 0x04000000, w := 640, h := 480 } }

theorem witness_ArmRebuildsCamera :
    armable.quiet ∧ (armable.cam 0).chan = .disarmed ∧ Claim.camFits (armable.cam 0).cfg.geom ∧
      ¬Claim.armClashes armable 0 (armable.cam 0).cfg.geom ∧
      ∀ x ∈ (armable.cam 0).slots, x.holders = 0 := by
  rw [armClashes_iff]
  unfold Claim.camFits
  exact ⟨rfl, by decide +kernel⟩

/-- The camera's slot area lies on its intake window. -/
def armMeets : State :=
  armable.setCam 0 { armable.cam 0 with cfg := { (armable.cam 0).cfg with slotBase := 0x01000000 } }

/-- The camera has a slot that is held. -/
def armHeld : State := armable.setCam 0 { armable.cam 0 with slots := [⟨.ready 1 0, 1⟩] }

/-- The screen's window lies on the control area. -/
def enableMeets : State :=
  enableable.setScreen 0 { enableable.screen 0 with
    cfg := { (enableable.screen 0).cfg with base := 0x0F000000 } }

/-- The screen has a retiring set. -/
def enableHeld : State :=
  enableable.setScreen 0 { enableable.screen 0 with retiring := some (oneSet 1) }

/-- Each line of the checks of ARM and of ENABLE is reached. -/
theorem witness_ArmEnableRefusedInOrder :
    ((withCam 0 liveCam).quiet ∧ Claim.armRefused (withCam 0 liveCam) 0 .refusedState) ∧
    (State.reset.quiet ∧ Claim.armRefused State.reset 0 .geometry) ∧
    (armMeets.quiet ∧ Claim.armRefused armMeets 0 .overlap) ∧
    (armHeld.quiet ∧ Claim.armRefused armHeld 0 .busy) ∧
    ((withScr 0 runScr).quiet ∧ Claim.enableRefused (withScr 0 runScr) 0 .refusedState) ∧
    Claim.enableRefused State.reset 0 .geometry ∧
    (enableMeets.quiet ∧ Claim.enableRefused enableMeets 0 .overlap) ∧
    enableHeld.quiet ∧ Claim.enableRefused enableHeld 0 .busy := by
  simp only [Claim.armRefused, Claim.enableRefused, Claim.camFits, Claim.scrFits, armClashes_iff,
    enableClashes_iff]
  exact ⟨⟨rfl, by decide +kernel⟩, ⟨rfl, by decide +kernel⟩, ⟨rfl, by decide +kernel⟩,
    ⟨rfl, by decide +kernel⟩, ⟨rfl, by decide +kernel⟩, by decide +kernel,
    ⟨rfl, by decide +kernel⟩, rfl, by decide +kernel⟩

/-- Two DISARMED cameras with one and the same intake window. -/
def twoArmable : State :=
  armable.setCam 1 { armable.cam 0 with cfg := { (armable.cam 0).cfg with slotBase := 0x05000000 } }

theorem witness_TwoArmsInOneBeat :
    let d := beatOfFields [(0, 1, 1), (4, 1, 1)]
    twoArmable.quiet ∧ twoArmable.classify (beatBase 0x0F0080C0) = .live ∧
      beatBase 0x0F0080C0 = twoArmable.controlBase + 0x80C0 ∧
      beatByte d ((0 : CamId).val * 4) = 1 ∧ beatByte d ((1 : CamId).val * 4) = 1 ∧
      (∀ x, x = 0 ∨ x = 1 → (twoArmable.cam x).chan = .disarmed ∧
        Claim.camFits (twoArmable.cam x).cfg.geom ∧
        ¬Claim.armClashes twoArmable x (twoArmable.cam x).cfg.geom ∧
        ∀ q ∈ (twoArmable.cam x).slots, q.holders = 0) ∧
      Claim.share (Claim.window (twoArmable.cam 0).cfg.geom)
        (Claim.window (twoArmable.cam 1).cfg.geom) := by
  simp only [Claim.camFits, armClashes_iff, share_iff]
  exact ⟨rfl, by decide +kernel⟩

theorem witness_DisarmKeepsSlots :
    (between.quiet ∧ (between.cam 0).chan ≠ .disarmed ∧ (between.cam 0).intake = none ∧
      between.engine.state ≠ .waitingFrame) ∧
    (let s := inFrame 1 (some 1);
      s.quiet ∧ (s.cam 0).chan ≠ .disarmed ∧
        Claim.fills (s.cam 0) (frame 1 (some 1)) 1 5 0 0 ∧ s.engine.state ≠ .waitingFrame ∧
        (s.cam 0).eval.verdict = .clean) ∧
    (let s := runs .waitingFrame burst between;
      s.quiet ∧ (s.cam 0).chan ≠ .disarmed ∧ (s.cam 0).intake = none ∧
        (s.cam 0).eval.state = .off ∧ s.engine.state = .waitingFrame ∧
        s.engine.running = some 2 ∧ s.engine.loaded = some burst ∧
        burst.camera = (0 : CamId).val) ∧
    between.quiet ∧ (between.cam 1).chan = .disarmed :=
  ⟨⟨rfl, by decide +kernel⟩, ⟨rfl, by unfold Claim.fills; decide +kernel⟩, ⟨rfl, by decide +kernel⟩,
    rfl, by decide +kernel⟩

theorem witness_SkipTruncates :
    (let s := inFrame 1 (some 1);
      s.quiet ∧ (s.cam 0).chan ≠ .disarmed ∧
        Claim.fills (s.cam 0) (frame 1 (some 1)) 1 5 0 0) ∧
    (let s := inFrame 1 none;
      s.quiet ∧ (s.cam 0).chan ≠ .disarmed ∧ (s.cam 0).intake = some (frame 1 none) ∧
        (frame 1 none).target = none) ∧
    between.quiet ∧ (between.cam 0).chan ≠ .disarmed ∧ (between.cam 0).intake = none ∧
      (between.cam 1).chan = .disarmed :=
  ⟨⟨rfl, by unfold Claim.fills; decide +kernel⟩, ⟨rfl, by decide +kernel⟩, rfl, by decide +kernel⟩

/-- A camera in the channel state given, with the evaluator state and mode given. -/
def evalIn (ch : Channel) (st : EvState) (m : EvMode) : State :=
  withCam 0 fun x =>
    { liveCam x with chan := ch, eval := { x.eval with state := st, mode := m } }

theorem witness_ResetReturnsToWaiting :
    (∀ m ∈ [EvMode.run, .pause, .stop],
      ((evalIn .live .off m).cam 0).chan ≠ .disarmed ∧
        ((evalIn .live .off m).cam 0).intake = none ∧
        ((evalIn .live .off m).cam 0).eval.mode = m) ∧
    (∀ m, (evalIn .live .off m).quiet) ∧
    (let s := inFrame 1 (some 1);
      s.quiet ∧ (s.cam 0).chan ≠ .disarmed ∧
        Claim.fills (s.cam 0) (frame 1 (some 1)) 1 5 0 0 ∧ (s.cam 0).eval.verdict = .clean) ∧
    between.quiet ∧ (between.cam 1).chan = .disarmed :=
  ⟨by decide +kernel, fun _ => rfl, ⟨rfl, by unfold Claim.fills; decide +kernel⟩, rfl, by decide +kernel⟩

/-- Each state of an evaluator that is not OFF, and an OFF one in each channel state. -/
theorem witness_EvalRequests :
    (∀ st ∈ [EvState.restartWait, .watch, .learn, .hold true true .watch],
      ((evalIn .live st .run).cam 0).eval.state = st ∧ st ≠ .off) ∧
    (∀ ch ∈ [Channel.disarmed, .waiting, .live, .stale, .lost],
      ((evalIn ch .off .stop).cam 0).eval.state = .off ∧
        ((evalIn ch .off .stop).cam 0).chan = ch) ∧
    ∀ ch st m, (evalIn ch st m).quiet :=
  ⟨by decide +kernel, by decide +kernel, fun _ _ _ => rfl⟩

theorem witness_RelearnByState :
    (∀ st ∈ [EvState.off, .restartWait, .watch, .learn, .hold true true .watch],
      ((evalIn .live st .run).cam 0).eval.state = st) ∧
    ∀ st, (evalIn .live st .run).quiet :=
  ⟨by decide +kernel, fun _ => rfl⟩

theorem witness_UnknownCodesAndAbsorbedWords :
    State.reset.quiet ∧
      (∀ o ∈ [Owner.part, .camera 5, .screen 2, .engine], o.codes < (255 : Byte).toNat) ∧
      Owner.engine.codes < (6 : Byte).toNat ∧
      State.reset.classify (beatBase 0x0F008040) = .live ∧
      (beatBase 0x0F008040 - State.reset.controlBase - 0x8000) / 64 = 1 ∧
      State.reset.classify (beatBase 0x0F008FC0) = .live :=
  ⟨rfl, by decide +kernel⟩

theorem witness_UnknownCodesInOneBeat :
    (State.reset.quiet ∧ State.reset.classify (beatBase 0x0F0080C0) = .live ∧
      beatBase 0x0F0080C0 = State.reset.controlBase + 0x80C0) ∧
    ∀ o : Owner, o ≠ .part → (BitVec.allOnes 64).getLsbD (wordAt o) = true →
      beatByte (Vector.replicate 64 255) (wordAt o) ≠ 0 →
      o.codes < (beatByte (Vector.replicate 64 255) (wordAt o)).toNat := by
  refine ⟨⟨rfl, by decide +kernel⟩, fun o ho _ _ => ?_⟩
  cases o with
  | part => exact absurd rfl ho
  | camera c => clear ho; revert c; decide +kernel
  | screen x => clear ho; revert x; decide +kernel
  | engine => decide +kernel

theorem witness_ConsumerIndexWritten : State.reset.quiet := rfl

/-- The summary's beat, the first beat of the page, and its last. -/
theorem witness_AttentionReadClears :
    State.reset.quiet ∧ State.reset.classify (beatBase 0x0F008040) = .live ∧
      beatBase 0x0F008040 = State.reset.controlBase + 0x8040 ∧
      State.reset.classify (beatBase 0x0F008000) = .live ∧
      State.reset.classify (beatBase 0x0F008FC0) = .live :=
  ⟨rfl, by decide +kernel⟩

theorem witness_RestartPerformed :
    Claim.restartNow State.reset tag 7 0 (.restart tag ⟨some 7, some 0⟩) ∧
      Claim.restartNow State.reset tag 7 255 (.restartWaitIdle tag ⟨some 7, some 255⟩) ∧
      ∀ x, (State.reset.screen x).table = [] :=
  ⟨⟨rfl, rfl, .inl ⟨rfl, rfl⟩⟩, ⟨rfl, rfl, .inr ⟨by decide, .inl rfl, rfl⟩⟩, by decide +kernel⟩

theorem witness_RestartAnswersRead :
    (let s := fetching [fetchEntry .active onePlan 1] .running none false;
      Claim.restartNow s tag 7 0 (.restart tag ⟨some 7, some 0⟩) ∧
        (s.screen 0).table = [fetchEntry .active onePlan 1] ∧
        ∀ y, y ≠ 0 → (s.screen y).table = []) ∧
    (let s := fetching [⟨1, 0, ⟨1, 0⟩, 0, .waiting⟩] .running none true;
      Claim.restartNow s tag 7 0 (.restart tag ⟨some 7, some 0⟩) ∧
        (s.screen 0).table = [⟨1, 0, ⟨1, 0⟩, 0, .waiting⟩] ∧
        ∀ y, y ≠ 0 → (s.screen y).table = []) :=
  ⟨⟨⟨rfl, rfl, .inl ⟨rfl, rfl⟩⟩, by decide +kernel⟩, ⟨rfl, rfl, .inl ⟨rfl, rfl⟩⟩, by decide +kernel⟩

/-- The engine in STORING with descriptor 2 loaded. -/
def storing : State := runs .storing { burst with mode := .frame, notify := true, remaining := 0 } between

theorem witness_RestartWaits :
    (∀ st ∈ [EngState.storing, .loading, .waitingFrame],
      (runs st burst between).engine.state = st ∧
        (runs st burst between).words.part.openTag = none) ∧
    (∀ st, (runs st burst between).quiet) ∧ (255 : Byte) ≠ 0 :=
  ⟨by decide +kernel, fun _ => rfl, by decide⟩

/-- A descriptor record: enabled and armed, camera 0, destination 06000000h, remaining `n`. -/
def recordBeat (n : Nat) : Beat :=
  beatOfFields [(0x00, 1, 1), (0x01, 1, 1), (0x08, 8, 0x06000000), (0x10, 2, n)]

/-- A copy of a whole frame of 256 bytes: the reads sent and returned, the bytes that wait, and the beats
written. -/
def copyAt (sent back : Nat) (bytes : List Byte) (written : Nat) : CopyRun :=
  ⟨0x04000000, 64, 0, 0, 64, 2, 0x06000000, sent, back, bytes, written⟩

/-- That copy in progress from slot 0 of camera 0, the loaded copy as given. -/
def copying (d : Loaded) (k : CopyRun) : State :=
  let s := runs .copying d between
  s.setEngine { s.engine with run := 1, source := some (0, 0), copy := some k }

theorem witness_RestartWaitsCopy :
    (let k := copyAt 3 3 [] 3;
      let s := copying burst k;
      s.quiet ∧ s.words.part.openTag = none ∧ s.engine.state = .copying ∧
        s.engine.copy = some k ∧ s.engine.source = some (0, 0) ∧ k.readsBack = k.readsSent ∧
        k.writeReady = false) ∧
    (let k := copyAt 3 2 [] 2;
      let s := copying burst k;
      s.quiet ∧ s.words.part.openTag = none ∧ s.engine.state = .copying ∧
        s.engine.copy = some k ∧ s.engine.source = some (0, 0) ∧ k.readsBack ≠ k.readsSent) :=
  ⟨⟨rfl, by decide +kernel⟩, rfl, by decide +kernel⟩

theorem witness_RestartBusy :
    let s := after (.restartWaitIdle tag ⟨some 7, some 255⟩) storing
    s.quiet ∧ s.words.part.openTag = some 7 := by
  simp only [State.quiet]; decide +kernel

theorem witness_EngineEnableDisable :
    (State.reset.quiet ∧ State.reset.engine.state = .disabled ∧
      State.reset.engine.continuation = none) ∧
    (idle State.reset).quiet ∧ (idle State.reset).engine.state = .idle ∧ storing.quiet ∧
      storing.engine.state = .storing :=
  ⟨⟨rfl, by decide +kernel⟩, rfl, by decide +kernel, rfl, by decide +kernel⟩

/-- Descriptor 15's trigger copy enabled, the engine as given. -/
def enabled15 (st : EngState) (running : Option DescId) : State :=
  withEng fun e =>
    { e.setCopy 15 { TriggerCopy.zero with enable := 1 } with
      state := st
      enable := true
      running := running
      loaded := running.map fun _ => loadedOf (Vector.replicate 64 0) }

/-- A request whose index names descriptor 15. -/
def fields15 : ReqFields := ⟨some 7, some 0xFF⟩

theorem witness_StartByTriggerCopy :
    (State.reset.quiet ∧
      ((State.reset.mailbox .engine).take 3 fields15).index.toNat % 16 = (15 : DescId).val ∧
      (State.reset.engine.copyOf 15).enabled = false) ∧
    (let s := enabled15 .storing (some 3);
      s.quiet ∧ ((s.mailbox .engine).take 3 fields15).index.toNat % 16 = (15 : DescId).val ∧
        (s.engine.copyOf 15).enabled = true ∧ s.engine.state ≠ .idle) ∧
    (let s := enabled15 .idle none;
      s.quiet ∧ ((s.mailbox .engine).take 3 fields15).index.toNat % 16 = (15 : DescId).val ∧
        (s.engine.copyOf 15).enabled = true ∧ s.engine.state = .idle ∧ s.engine.enable = true ∧
        s.engine.pending = 0 ∧ s.engine.continuation = none) :=
  ⟨⟨rfl, by decide +kernel⟩, ⟨rfl, by decide +kernel⟩, rfl, by decide +kernel⟩

theorem witness_ArmDescriptor :
    (State.reset.quiet ∧
      ((State.reset.mailbox .engine).take 4 fields15).index.toNat % 16 = (15 : DescId).val ∧
      (State.reset.engine.copyOf 15).enabled = false) ∧
    (let s := enabled15 .idle none;
      s.quiet ∧ ((s.mailbox .engine).take 4 fields15).index.toNat % 16 = (15 : DescId).val ∧
        (s.engine.copyOf 15).enabled = true ∧ s.engine.running ≠ some 15) ∧
    (let s := enabled15 .storing (some 15);
      s.quiet ∧ ((s.mailbox .engine).take 4 fields15).index.toNat % 16 = (15 : DescId).val ∧
        (s.engine.copyOf 15).enabled = true ∧ s.engine.running = some 15 ∧
        s.engine.loaded.isSome = true) :=
  ⟨⟨rfl, by decide +kernel⟩, ⟨rfl, by decide +kernel⟩, rfl, by decide +kernel⟩

theorem witness_AbortByState :
    (State.reset.quiet ∧ State.reset.engine.state = .disabled) ∧
    (∀ st ∈ [EngState.loading, .storing, .waitingFrame],
      let s := runs st burst between
      s.engine.state = st ∧ s.engine.ending = .none ∧ s.words.part.openTag = none ∧
        s.engine.running = some 2 ∧ s.engine.loaded = some burst) ∧
    (∀ st, (runs st burst between).quiet) ∧
    (let s := runs .storing burst between;
      let s := s.setEngine { s.engine with ending := .abort };
      s.quiet ∧ s.engine.state ≠ .disabled ∧ s.engine.state ≠ .idle ∧ s.engine.ending ≠ .none) :=
  ⟨⟨rfl, by decide +kernel⟩, by decide +kernel, fun _ => rfl, rfl, by decide +kernel⟩

/-- ABORT of a copy with nothing in flight, and of one with a read out. -/
theorem witness_AbortCopy :
    (let k := copyAt 3 3 [] 3;
      let s := copying burst k;
      Claim.running s .copying ∧ s.engine.running = some 2 ∧ s.engine.loaded = some burst ∧
        s.engine.copy = some k ∧ s.engine.source = some (0, 0) ∧ k.readsBack = k.readsSent ∧
        k.writeReady = false) ∧
    (let k := copyAt 3 2 [] 2;
      let s := copying burst k;
      Claim.running s .copying ∧ s.engine.running = some 2 ∧ s.engine.loaded = some burst ∧
        s.engine.copy = some k ∧ s.engine.source = some (0, 0) ∧ k.readsBack ≠ k.readsSent) :=
  ⟨⟨⟨rfl, by decide +kernel⟩, by decide +kernel⟩, ⟨rfl, by decide +kernel⟩, by decide +kernel⟩

theorem witness_LoadAndArmWriteHanded :
    (let s := enabled15 .loading (some 15);
      s.quiet ∧ s.room .desc = true ∧ s.engine.state = .loading ∧ s.engine.running = some 15 ∧
        s.engine.loadHanded = false ∧ s.engine.armOwed.getLsbD (15 : DescId).val = false) ∧
    (let s := withEng fun e => { e with armOwed := 0x8000 };
      s.quiet ∧ s.room .desc = true ∧ s.engine.armOwed.getLsbD (15 : DescId).val = true ∧
        ∀ m : DescId, m < 15 → s.engine.armOwed.getLsbD m.val = false) :=
  ⟨⟨rfl, by decide +kernel⟩, rfl, by decide +kernel⟩

/-- The load of a record in flight, beside a LIVE camera with a READY slot. -/
def loading (d : Beat) (e : Ending) : State :=
  { between with
    engine :=
      { between.engine with state := .loading, running := some 2, loadHanded := true, ending := e, run := 1 }
    reads := [⟨.load 1, 0x0F004080, d⟩] }

theorem loading_loads (d : Beat) (e : Ending) :
    Claim.loads (loading d e) d 0x0F004080 [] 2 (loadedOf d) := ⟨rfl, rfl, rfl, rfl, rfl, rfl⟩

/-- A load that returns: of a record not enabled, of a spent one, of a good one, of a run that is ending, and of a
run that was abandoned. -/
theorem witness_LoadReturnChecked :
    (let d : Beat := Vector.replicate 64 0;
      let s := loading d .none;
      Claim.loads s d 0x0F004080 [] 2 (loadedOf d) ∧ s.engine.ending = .none ∧
        (loadedOf d).enable = false ∧ s.engine.held = []) ∧
    (let s := loading (recordBeat 0) .none;
      Claim.loads s (recordBeat 0) 0x0F004080 [] 2 (loadedOf (recordBeat 0)) ∧
        s.engine.ending = .none ∧ (loadedOf (recordBeat 0)).enable = true ∧
        Claim.checkFails s (loadedOf (recordBeat 0)) (some 2)) ∧
    (let s := loading (recordBeat 1) .none;
      Claim.loads s (recordBeat 1) 0x0F004080 [] 2 (loadedOf (recordBeat 1)) ∧
        s.engine.ending = .none ∧ (loadedOf (recordBeat 1)).enable = true ∧
        Claim.checkFails s (loadedOf (recordBeat 1)) none ∧
        (loadedOf (recordBeat 1)).cam = some 0 ∧ (s.cam 0).ready.getLast? = some 0) ∧
    (let s := loading (recordBeat 1) .abort;
      Claim.loads s (recordBeat 1) 0x0F004080 [] 2 (loadedOf (recordBeat 1)) ∧
        s.engine.ending ≠ .none) ∧
    (let s := inFlight (.load 0) (copying burst (copyAt 0 0 [] 0));
      s.quiet ∧ s.reads = ⟨.load 0, 0x04000000, Vector.replicate 64 0⟩ :: [] ∧
        0 ≠ s.engine.run) :=
  ⟨⟨loading_loads _ _, by decide +kernel⟩,
    ⟨loading_loads _ _, by simp only [checkFails_iff]; decide +kernel⟩,
    ⟨loading_loads _ _, by simp only [checkFails_iff]; decide +kernel⟩,
    ⟨loading_loads _ _, by decide +kernel⟩, rfl, by decide +kernel⟩

/-- The destination of the BURST of camera 0 begins at the address given, as many places as given. -/
def into (a : Nat) (n : BitVec 16) : Loaded := { burst with mode := .frame, destBase := a, places := n }

/-- The results of the later checks. A destination of places of 256 bytes that just reaches, and one that just does
not reach, the intake window and the slot area of camera 0, the control area and the highest address; one that
meets the held slot of a DISARMED camera and an enabled screen's window; a camera that is DISARMED, and none. -/
theorem witness_LoadFails :
    (∀ x ∈ [into 0x00FFFF00 2, into 0x01000FC0 1, into 0x04003FC0 1, into 0x0EFFFF00 2, into 0x0F00FFC0 1,
        into (2 ^ 40 - 0xC0) 1],
      Claim.checkFails between x (some 3)) ∧
    (∀ x ∈ [into 0x00FFFF00 1, into 0x0EFFFF00 1, into 0x0F010000 1, into (2 ^ 40 - 0x100) 1],
      Claim.checkFails between x none) ∧
    Claim.checkFails (between.setCam 1 { between.cam 0 with
        chan := .disarmed, geom := ⟨0x02000000, 0x05000000, 64, 2, 4⟩ }) (into 0x05000000 1) (some 3) ∧
    Claim.checkFails (between.setScreen 2 (runScr (between.screen 2))) (into 0x010A0000 1) (some 3) ∧
    Claim.checkFails between { into 0 1 with camera := 1 } (some 4) ∧
    Claim.checkFails between { into 0 1 with camera := 7 } (some 4) := by
  simp only [checkFails_iff]; decide +kernel

theorem witness_CopyReadsAndWritesHanded :
    (let k := copyAt 3 3 [] 0;
      let s := copying burst k;
      Claim.copying s k ∧ s.engine.ending = .none ∧ s.room .copy = true ∧
        k.readsSent < Claim.beatsInLine k * k.h) ∧
    (let k := copyAt 3 2 [] 0;
      let s := inFlight (.copy 1) (copying burst k);
      Claim.copying s k ∧ s.engine.ending = .none ∧
        s.reads = ⟨.copy s.engine.run, 0x04000000, Vector.replicate 64 0⟩ :: []) ∧
    (let k := copyAt 4 4 (List.replicate 128 5) 2;
      let s := copying burst k;
      Claim.copying s k ∧ s.engine.ending = .none ∧ s.room .copy = true ∧
        k.written + 1 < (Claim.placeSize k + 63) / 64 ∧ 64 ≤ k.buffer.length ∧
        64 ≤ Claim.placeSize k - k.written * 64) ∧
    (let s := inFlight (.copy 0) (copying burst (copyAt 3 2 [] 0));
      s.quiet ∧ s.reads = ⟨.copy 0, 0x04000000, Vector.replicate 64 0⟩ :: [] ∧
        0 ≠ s.engine.run) :=
  ⟨⟨⟨rfl, rfl, rfl⟩, by decide +kernel⟩, ⟨⟨rfl, rfl, rfl⟩, by decide +kernel⟩,
    ⟨⟨rfl, rfl, rfl⟩, by decide +kernel⟩, rfl, by decide +kernel⟩

/-- The last read of an aborted copy of two lines of 4 pixels, its 16 bytes not enough for a whole place. -/
theorem witness_AbortedCopyEnds :
    let k : CopyRun := ⟨0x04000000, 64, 0, 0, 4, 2, 0x06000000, 1, 0, [], 0⟩
    let s := inFlight (.copy 1) (copying burst k)
    let s := s.setEngine { s.engine with ending := .abort }
    Claim.copying s k ∧ s.engine.ending = .abort ∧ s.words.part.openTag = none ∧
      s.reads = ⟨.copy s.engine.run, 0x04000000, Vector.replicate 64 0⟩ :: [] ∧
      k.readsBack + 1 = k.readsSent ∧
      k.buffer.length + (Claim.sourceBytes k k.readsBack (Vector.replicate 64 0)).length <
        min 64 (Claim.placeSize k - k.written * 64) ∧
      s.engine.running = some 2 ∧ s.engine.loaded = some burst ∧
      s.engine.source = some (0, 0) :=
  ⟨⟨rfl, rfl, rfl⟩, by decide +kernel⟩

/-- The last write of a BURST that goes on, and of one whose camera has gone STALE; and of a copy whose last beat
holds 16 bytes. -/
theorem witness_LastCopyWriteEndsCopy :
    (let k := copyAt 4 4 (List.replicate 64 5) 3;
      let s := copying burst k;
      Claim.lastWrite s k 64 burst 0 0 1 0 1 ∧ burst.camera = (0 : CamId).val ∧
        (s.cam 0).chan = .live) ∧
    (let k : CopyRun := ⟨0x04000000, 64, 0, 0, 4, 2, 0x06000000, 2, 2, List.replicate 16 5, 0⟩;
      Claim.lastWrite (copying { burst with mode := .crop } k) k 16 { burst with mode := .crop } 0 0 1 0 1) ∧
    (let k := copyAt 4 4 (List.replicate 64 5) 3;
      let s := copying burst k;
      let s := s.setCam 0 { s.cam 0 with chan := .stale };
      Claim.lastWrite s k 64 burst 0 0 1 0 1 ∧ burst.mode = .burst ∧ burst.remaining ≠ 1 ∧
        burst.camera = (0 : CamId).val ∧ (s.cam 0).chan ≠ .waiting ∧ (s.cam 0).chan ≠ .live ∧
        s.engine.running = some 2) :=
  ⟨⟨⟨⟨rfl, rfl, rfl⟩, by decide +kernel⟩, by decide +kernel⟩,
    ⟨⟨rfl, rfl, rfl⟩, by decide +kernel⟩, ⟨⟨rfl, rfl, rfl⟩, by decide +kernel⟩, by decide +kernel⟩

/-- A run in STORING that copied, its link to descriptor 15 set, whose trigger copy is as given. -/
def linking (u : TriggerCopy) : State :=
  let s := runs .storing { burst with link := true, target := 15 } between
  s.setEngine { s.engine.setCopy 15 u with copied := true }

/-- The end of a chain, a link followed, links refused as disabled and as spent, and a RESTART that waited. -/
theorem witness_WriteBackEndsChain :
    (∃ d, Claim.stores storing 2 d ∧ ¬Claim.linked storing.engine d) ∧
    storing.words.part.openTag = none ∧
    (let s := linking ⟨1, 0, 0, 0, 0, 3⟩;
      let d : Loaded := { burst with link := true, target := 15 };
      Claim.stores s 2 d ∧ s.words.part.openTag = none ∧ Claim.linked s.engine d ∧
        ((Claim.writtenBack s 2 d).engine.copyOf d.target).enabled = true ∧
        ((Claim.writtenBack s 2 d).engine.copyOf d.target).remaining ≠ 0) ∧
    (∀ u ∈ [(⟨0, 0, 0, 0, 0, 3⟩ : TriggerCopy), ⟨1, 0, 0, 0, 0, 0⟩],
      let s := linking u
      let d : Loaded := { burst with link := true, target := 15 }
      Claim.stores s 2 d ∧ s.words.part.openTag = none ∧ Claim.linked s.engine d ∧
        (((Claim.writtenBack s 2 d).engine.copyOf d.target).enabled = false ∨
          ((Claim.writtenBack s 2 d).engine.copyOf d.target).remaining = 0)) ∧
    (let s := after (.restartWaitIdle tag ⟨some 7, some 255⟩) storing;
      (∃ d, s.engine.loaded = some d) ∧ s.engine.state = .storing ∧ s.engine.running = some 2 ∧
        s.room .desc = true ∧ s.port.held = [] ∧ s.words.part.openTag = some 7 ∧
        ∀ x, (s.screen x).table = []) := by
  refine ⟨⟨_, ⟨rfl, rfl, by decide +kernel, rfl, rfl⟩, by unfold Claim.linked; decide +kernel⟩,
    by decide +kernel,
    ⟨⟨rfl, rfl, by decide +kernel, rfl, rfl⟩, by unfold Claim.linked; decide +kernel⟩,
    fun u hu => ?_, ⟨_, rfl⟩, by decide +kernel⟩
  simp only [List.mem_cons, List.not_mem_nil, or_false] at hu
  obtain rfl | rfl := hu <;>
    exact ⟨⟨rfl, rfl, by decide +kernel, rfl, rfl⟩, by unfold Claim.linked; decide +kernel⟩

/-- Sixteen beats in the PASS queue, the last granted source being REPORT. -/
def passFull : State :=
  { State.reset with
    arb :=
      { State.reset.arb with
        queues := State.reset.arb.queues.set 0 (List.replicate 16 ⟨0, 0x06000000, .write ones 1⟩)
        handed := 16 } }

/-- Sixteen in the INTAKE queue beside the camera between frames or in one. -/
def intakeFull (s : State) : State :=
  { s with
    arb := { s.arb with queues := s.arb.queues.set 1 (List.replicate 16 ⟨0, 0x04000000, .write ones 1⟩) } }

theorem witness_PlainBeatPassesUnchanged :
    State.reset.quiet ∧ State.reset.room .pass = true ∧
      State.reset.classify (beatBase 0xFFFFFFFFC0) = .plain ∧
      State.reset.classify (beatBase 0x0F00C3C0) = .ring ∧
      State.reset.classify (beatBase 0x0F000100) = .config ∧
      State.reset.classify (beatBase 0x0F004000) = .descriptor :=
  ⟨rfl, by decide +kernel⟩

/-- Each cause that holds a beat back: the PASS queue full, the INTAKE queue full for a write that starts a frame,
for one inside a frame and for a read, and the composition table full. -/
theorem witness_HeldBack_pass :
    passFull.quiet ∧ Claim.noRoom passFull (beatBase 0x06000000) .read := by
  have h : passFull.classify (beatBase 0x06000000) = .plain := by decide +kernel
  unfold Claim.noRoom
  rw [h]
  exact ⟨rfl, by decide +kernel⟩

theorem witness_HeldBack_intakeWrite :
    (intakeFull between).quiet ∧
      Claim.noRoom (intakeFull between) (beatBase 0x01000000) (.write ones 1) := by
  have h : (intakeFull between).classify (beatBase 0x01000000) = .intake 0 := by decide +kernel
  unfold Claim.noRoom
  rw [h]
  exact ⟨rfl, by decide +kernel, 0, by decide, by decide +kernel, by decide +kernel,
    .inr ⟨rfl, by decide +kernel, 1, by decide +kernel⟩⟩

theorem witness_HeldBack_intakeBeat :
    (intakeFull (inFrame 1 (some 1))).quiet ∧
      Claim.noRoom (intakeFull (inFrame 1 (some 1))) (beatBase 0x01000040) (.write ones 1) := by
  have h : (intakeFull (inFrame 1 (some 1))).classify (beatBase 0x01000040) = .intake 0 := by
    decide +kernel
  unfold Claim.noRoom
  rw [h]
  exact ⟨rfl, by decide +kernel, 1, by decide, by decide +kernel, by decide +kernel,
    .inl ⟨by decide, frame 1 (some 1), 1, by decide +kernel, by decide +kernel⟩⟩

theorem witness_HeldBack_intakeRead :
    (intakeFull between).quiet ∧ Claim.noRoom (intakeFull between) (beatBase 0x01000000) .read := by
  have h : (intakeFull between).classify (beatBase 0x01000000) = .intake 0 := by decide +kernel
  unfold Claim.noRoom
  rw [h]
  exact ⟨rfl, by decide +kernel, 0, by decide +kernel⟩

theorem witness_HeldBack_screenRead :
    let s := fetching (List.replicate 32 (fetchEntry .active onePlan 1)) .running none false
    s.quiet ∧ Claim.noRoom s (beatBase 0x010A0000) .read := by
  intro s
  have h : s.classify (beatBase 0x010A0000) = .screen 0 := by decide +kernel
  unfold Claim.noRoom
  rw [h]
  exact ⟨rfl, by decide +kernel⟩

/-- A plain read held back behind the full PASS queue. -/
def held : State := after (.plainBeat tag 0x07000000 .read) passFull

theorem witness_HeldBehind :
    held.port.held = [.beat tag 0x07000000 .read] ∧
      Claim.itemOf (.arm tag 0 flds) = some (.request tag (.camera 0) 1 flds) :=
  ⟨by decide +kernel, rfl⟩

/-- A CONFIG write beat at each record, and at a beat that holds no setting, can be taken. -/
theorem witness_ConfigWriteMergesCamera :
    Claim.configAt State.reset 0x0F000600 (0x100 + (5 : CamId).val * 0x100) ∧
      (State.reset.cam 5).chan = .disarmed ∧
      Claim.configAt State.reset 0x0F002000 (0x1000 + (2 : ScrId).val * 0x800) ∧
      (State.reset.screen 2).state = .disabled ∧
      Claim.configAt State.reset 0x0F002580
        (0x1000 + (2 : ScrId).val * 0x800 + 0x100 * ((4 : Fin 5).val + 1) + (2 : Fin 3).val * 64) ∧
      Claim.configAt State.reset 0x0F000000 0 ∧ Claim.configAt State.reset 0x0F003000 0x3000 ∧
      Claim.configAt State.reset 0x0F0006C0 0x6C0 ∧ Claim.noSetting 0x6C0 :=
  ⟨⟨rfl, by decide +kernel⟩, by decide +kernel, ⟨rfl, by decide +kernel⟩, by decide +kernel,
    ⟨rfl, by decide +kernel⟩, ⟨rfl, by decide +kernel⟩, ⟨rfl, by decide +kernel⟩,
    ⟨rfl, by decide +kernel⟩, by unfold Claim.noSetting; decide⟩

theorem witness_LockedBytesNotMerged :
    Claim.configAt between 0x0F000100 (0x100 + (0 : CamId).val * 0x100) ∧
      (between.cam 0).chan ≠ .disarmed ∧
      Claim.configAt (showing 1) 0x0F001000 (0x1000 + (0 : ScrId).val * 0x800) ∧
      ((showing 1).screen 0).state ≠ .disabled :=
  ⟨⟨rfl, by decide +kernel⟩, by decide +kernel, ⟨rfl, by decide +kernel⟩, by decide +kernel⟩

theorem witness_DescriptorWriteMerged :
    State.reset.quiet ∧ State.reset.room .pass = true ∧
      State.reset.classify (beatBase 0x0F0043C0) = .descriptor ∧
      beatBase 0x0F0043C0 = State.reset.controlBase + 0x4000 + (15 : DescId).val * 64 :=
  ⟨rfl, by decide +kernel⟩

/-- PASS was granted last. INTAKE is empty; the head of COMPOSE reads a beat to which an earlier write waits in
DESC, behind a beat to another address; COPY holds a read of that beat too, handed before the write. -/
def contended : State :=
  { State.reset with
    arb :=
      { queues := #v[[⟨0, 0x06000000, .write ones 1⟩], [], [⟨4, 0x06000040, .read (.copy 0)⟩],
          [⟨2, 0x06000040, .read (.copy 0)⟩],
          [⟨1, 0x06000080, .read (.copy 0)⟩, ⟨3, 0x06000040, .write ones 1⟩], []]
        last := .pass
        handed := 5 } }

/-- COMPOSE is passed over, and COPY is granted though its beat is not the earliest. -/
theorem witness_Granted :
    contended.quiet ∧
      Claim.grants contended .copy ⟨2, 0x06000040, .read (.copy 0)⟩ [] := by
  refine ⟨rfl, by decide +kernel, rfl, ⟨rfl, ?_⟩, ?_⟩
  · intro x hx b hb ho ha
    have : ∀ b ∈ contended.queue x, b.order < 2 → b.addr ≠ 0x06000040 := by
      cases x <;> decide +kernel
    exact absurd ha (this b hb ho)
  · intro x hx g hg
    cases x with
    | intake => nomatch (show none = some g from hg.1)
    | compose =>
      obtain rfl := Option.some.inj hg.1
      obtain ⟨⟨o, h⟩, -⟩ :=
        hg.2 .desc (by decide) ⟨3, 0x06000040, .write ones 1⟩ (by decide +kernel) (by decide)
          (by decide)
      exact MemOp.noConfusion h
    | _ => exact absurd hx (by decide +kernel)

theorem witness_NothingGranted :
    State.reset.quiet ∧ ∀ q h, ¬Claim.eligible State.reset q h :=
  ⟨rfl, fun q h hg => by cases q <;> nomatch (show none = some h from hg.1)⟩

theorem witness_EarliestEligible :
    contended.quiet ∧ Memory.wf contended.dram = true ∧
      contended.queue .pass = ⟨0, 0x06000000, .write ones 1⟩ :: [] ∧
      ∀ x, ∀ b ∈ contended.queue x, 0 ≤ b.order :=
  ⟨rfl, by decide +kernel, rfl, fun _ _ _ => Nat.zero_le _⟩

theorem witness_GrantedTakesHeld :
    held.port.held = .beat tag 0x07000000 .read :: [] ∧
      held.classify (beatBase 0x07000000) = .plain ∧ (held.queue .pass).length = 16 ∧
      Claim.grants held .pass ⟨0, 0x06000000, .write ones 1⟩
        (List.replicate 15 ⟨0, 0x06000000, .write ones 1⟩) :=
  ⟨by decide +kernel, by decide +kernel, by decide +kernel, by decide +kernel, by decide +kernel,
    ⟨by decide +kernel, fun _ _ _ _ h => absurd h (Nat.not_lt_zero _)⟩,
    fun x hx => absurd hx (by cases x <;> decide +kernel)⟩

/-- A staged record. -/
def oneRecord : Record := ⟨.camLive, 0, 0, 0, 0, 0⟩

theorem witness_ReportHanded :
    (let s := { State.reset with ring := { Ring.powerOn with staging := [oneRecord], producer := 63 } };
      s.quiet ∧ s.ring.staging = oneRecord :: [] ∧ s.room .report = true) ∧
    State.reset.quiet ∧ State.reset.ring.staging = [] ∧
      State.reset.part.masks.getLsbD (Claim.kindCode .snapEnded).toNat = false :=
  ⟨⟨rfl, by decide +kernel⟩, rfl, by decide +kernel⟩

/-! A step taken from a state that meets the invariant, for each invariant. -/

theorem witness_StepKeepsDramCanonical :
    let s := { contended with dram := [⟨5, 1⟩], pending := [.arbiterGrant] }
    s.dramWf ∧ ∃ t, step s = .next t :=
  ⟨by simp only [State.dramWf]; decide +kernel, _, rfl⟩

theorem reset_timers_idle (x : Timer) : State.reset.timer x = none := by
  cases x with
  | stale c => revert c; decide +kernel
  | lost c => revert c; decide +kernel
  | gap c => revert c; decide +kernel
  | filter l => revert l; decide +kernel
  | offset x => revert x; decide +kernel
  | cycle x => revert x; decide +kernel

theorem witness_StepKeepsBounds :
    let s := { State.reset with
      ring := { Ring.powerOn with staging := [oneRecord], producer := 62 }, pending := [.reportHanding] }
    (s.ringBounded ∧ s.queuesBounded ∧ s.tablesBounded ∧ s.timersAhead) ∧ ∃ t, step s = .next t := by
  refine ⟨⟨by simp only [State.ringBounded]; decide +kernel, fun q => ?_,
    by simp only [State.tablesBounded]; decide +kernel, fun x e h => ?_⟩, _, rfl⟩
  · cases q <;> decide +kernel
  · have h' : State.reset.timer x = some e := by cases x <;> exact h
    rw [reset_timers_idle] at h'
    cases h'

theorem witness_StepKeepsFrameCounters :
    let s := { inFrame 1 (some 1) with pending := [.gapTimerExpiry 0] }
    s.counted ∧ ∃ t, step s = .next t :=
  ⟨by simp only [State.counted, Camera.counted]; decide +kernel, _, rfl⟩

/-- Slot 0 of camera 0 carries the SNAP tag of the copy. -/
def snapping : State :=
  let s := copying burst (copyAt 0 0 [] 0)
  s.setCam 0 { s.cam 0 with slots := [⟨.ready 1 0, 0x1000⟩, ⟨.free, 0⟩] }

theorem witness_StepKeepsSnapHold :
    let s := { snapping with pending := [.copyRead] }
    (s.snapHeld ∧ ∃ x, (s.cam 0).slots[0]? = some x ∧ x.holders.getLsbD snapTag = true) ∧
      ∃ t, step s = .next t := by
  have h : ∀ c : CamId, ∀ x ∈ (snapping.cam c).slots.zipIdx, x.1.holders.getLsbD snapTag = true →
      c = 0 ∧ x.2 = 0 := by decide +kernel
  refine ⟨⟨fun c j x hx ht => ?_, ⟨.ready 1 0, 0x1000⟩, by decide +kernel⟩, _, rfl⟩
  obtain ⟨rfl, rfl⟩ := h c (x, j) (List.mk_mem_zipIdx_iff_getElem?.mpr hx) ht
  exact ⟨rfl, rfl⟩

theorem witness_StepKeepsVerdictOfLevel :
    let s := withCam 0 fun x =>
      { liveCam x with
        eval :=
          { x.eval with
            state := .watch, level := 1, verdict := .suspect
            tiles := x.eval.tiles.set 9 ⟨0, ⟨true, true, true⟩, 20, true⟩ } }
    let s := { s with pending := [.evalStop tag 0 flds] }
    s.judged ∧ ∃ t, step s = .next t :=
  ⟨by simp only [State.judged, Evaluator.judged]; decide +kernel, _, rfl⟩

theorem witness_StepKeepsWordsOfCommits :
    let s := after (.commit tag 0 ⟨some 9, none⟩) (withScr 0 runScr)
    let s := { s with pending := [.disable tag 0 flds] }
    (s.wordsAgree ∧ (s.screen 0).pendingCommit = some 9) ∧ ∃ t, step s = .next t :=
  ⟨⟨by simp only [State.wordsAgree]; decide +kernel, by decide +kernel⟩, _, rfl⟩

end Sys2Proof.Tests
end

/-!
What of the cameras the operations of the other blocks leave: a layer of frame lemmas, one per operation, for
statements about what every step keeps. `Camera.inner` is all of a camera that no operation of the screens, the
engine, the entrance lines, the ports and the config page changes.
-/
namespace Sys2Proof.Machine

/-! ### Cameras that an operation does not reach at all -/

theorem State.cam_attention (s : State) (a : Attention) (n : Nat) (i : CamId) :
    State.cam { s with attention := a, liveReads := n } i = s.cam i := rfl

@[simp] theorem State.cam_answer (s : State) (o : Owner) (r : Result) (i : CamId) :
    (s.answer o r).cam i = s.cam i := by simp [State.answer]

@[simp] theorem State.cam_answerOpen (s : State) (o : Owner) (i : CamId) :
    (s.answerOpen o).cam i = s.cam i := by simp [State.answerOpen]

@[simp] theorem State.cam_answerEnd (s : State) (o : Owner) (r : Result) (i : CamId) :
    (s.answerEnd o r).cam i = s.cam i := by simp [State.answerEnd]

@[simp] theorem State.cam_handFetches (s : State) (fs : List Fetch) (i : CamId) :
    (s.handFetches fs).cam i = s.cam i := by
  induction fs generalizing s with
  | nil => rfl
  | cons f rest ih =>
    rw [State.handFetches]
    split
    · rw [ih]; rfl
    · rfl

@[simp] theorem State.cam_composeEntry (s : State) (sc : ScrId) (hs : HoldSet) (e : Entry)
    (i : CamId) : (s.composeEntry sc hs e).cam i = s.cam i := by
  unfold State.composeEntry
  dsimp only
  split <;> simp

@[simp] theorem State.cam_composeEntries (s : State) (sc : ScrId) (hs : HoldSet) (es : List Entry)
    (i : CamId) : (s.composeEntries sc hs es).cam i = s.cam i := by
  induction es generalizing s with
  | nil => rfl
  | cons e rest ih => rw [State.composeEntries, ih, State.cam_composeEntry]

@[simp] theorem State.cam_composeWaiting (s : State) (sc : ScrId) (i : CamId) :
    (s.composeWaiting sc).cam i = s.cam i := by
  unfold State.composeWaiting
  dsimp only
  split <;> simp

@[simp] theorem State.cam_addEntry (s : State) (sc : ScrId) (p : PortTag) (o : Nat) (i : CamId) :
    (s.addEntry sc p o).cam i = s.cam i := rfl

@[simp] theorem State.cam_serveRead (s : State) (sc : ScrId) (p : PortTag) (o : Nat) (i : CamId) :
    (s.serveRead sc p o).cam i = s.cam i := by
  unfold State.serveRead
  dsimp only
  (repeat' split) <;> simp

@[simp] theorem State.cam_applyCommit (s : State) (sc : ScrId) (i : CamId) :
    (s.applyCommit sc).cam i = s.cam i := by
  unfold State.applyCommit
  dsimp only
  split <;> simp

@[simp] theorem State.cam_reportLayout (s : State) (sc : ScrId) (choice : LayoutChoice)
    (i : CamId) : (s.reportLayout sc choice).cam i = s.cam i := by
  unfold State.reportLayout
  dsimp only
  split <;> simp

@[simp] theorem State.cam_screenWrite (s : State) (sc : ScrId) (o : Nat) (i : CamId) :
    (s.screenWrite sc o).cam i = s.cam i := by
  unfold State.screenWrite
  dsimp only
  split <;> simp

@[simp] theorem State.cam_takeEnable (s : State) (sc : ScrId) (i : CamId) :
    (s.takeEnable sc).cam i = s.cam i := by
  unfold State.takeEnable
  dsimp only
  split <;> simp

@[simp] theorem State.cam_takeCommit (s : State) (sc : ScrId) (i : CamId) :
    (s.takeCommit sc).cam i = s.cam i := by
  unfold State.takeCommit
  dsimp only
  (repeat' split) <;> simp

@[simp] theorem State.cam_reportVerdict (s : State) (c : CamId) (old new : Verdict) (level : Nat)
    (seq : BitVec 32) (i : CamId) : (s.reportVerdict c old new level seq).cam i = s.cam i := by
  simp [State.reportVerdict]

@[simp] theorem State.cam_reportChannel (s : State) (k : Kind) (c : CamId) (left : Channel)
    (i : CamId) : (s.reportChannel k c left).cam i = s.cam i := by simp [State.reportChannel]

@[simp] theorem State.cam_reportDrop (s : State) (c : CamId) (seq : BitVec 32) (i : CamId) :
    (s.reportDrop c seq).cam i = s.cam i := by simp [State.reportDrop]

@[simp] theorem State.cam_trigger (s : State) (ev : HwEvent) (i : CamId) :
    (s.trigger ev).cam i = s.cam i := rfl

@[simp] theorem State.cam_formEdge (s : State) (l : LineId) (i : CamId) :
    (s.formEdge l).cam i = s.cam i := rfl

@[simp] theorem State.cam_filterLine (s : State) (l : LineId) (i : CamId) :
    (s.filterLine l).cam i = s.cam i := by
  unfold State.filterLine
  dsimp only
  (repeat' split) <;> simp

@[simp] theorem State.cam_pinChange (s : State) (l : LineId) (level : Bool) (i : CamId) :
    (s.pinChange l level).cam i = s.cam i := by simp [State.pinChange]

@[simp] theorem State.cam_polarityChange (s : State) (l : LineId) (old : LineSettings) (i : CamId) :
    (s.polarityChange l old).cam i = s.cam i := by
  unfold State.polarityChange
  dsimp only
  split <;> simp

@[simp] theorem State.cam_polarityChanges (s old : State) (ls : List LineId) (i : CamId) :
    (s.polarityChanges old ls).cam i = s.cam i := by
  induction ls generalizing s with
  | nil => rfl
  | cons l rest ih => rw [State.polarityChanges, ih, State.cam_polarityChange]

@[simp] theorem State.cam_filterExpiry (s : State) (l : LineId) (i : CamId) :
    (s.filterExpiry l).cam i = s.cam i := by
  unfold State.filterExpiry
  dsimp only
  split <;> simp

@[simp] theorem State.cam_setUpLine (s : State) (l : LineId) (pin : Bool) (i : CamId) :
    (s.setUpLine l pin).cam i = s.cam i := by
  unfold State.setUpLine
  dsimp only
  split <;> simp

@[simp] theorem State.cam_setUpLines (s : State) (ls : List LineId) (i : CamId) :
    (s.setUpLines ls).cam i = s.cam i := by
  induction ls generalizing s with
  | nil => rfl
  | cons l rest ih => rw [State.setUpLines, ih, State.cam_setUpLine]

@[simp] theorem State.cam_powerOnLines (s : State) (pins : Vector Bool 4) (ls : List LineId)
    (i : CamId) : (s.powerOnLines pins ls).cam i = s.cam i := by
  induction ls generalizing s with
  | nil => rfl
  | cons l rest ih => rw [State.powerOnLines, ih, State.cam_setUpLine]

@[simp] theorem State.cam_reportAllDone (s : State) (xs : List HeldDone) (i : CamId) :
    (s.reportAllDone xs).cam i = s.cam i := by
  induction xs generalizing s with
  | nil => rfl
  | cons x rest ih => rw [State.reportAllDone, ih, State.reportDone, State.cam_report]

@[simp] theorem State.cam_chainEnd (s : State) (i : CamId) : s.chainEnd.cam i = s.cam i := by
  simp [State.chainEnd]

@[simp] theorem State.cam_endRun (s : State) (r : SnapResult) (i : CamId) :
    (s.endRun r).cam i = s.cam i := by
  unfold State.endRun
  split <;> simp [State.reportEnded]

@[simp] theorem State.cam_storeAborted (s : State) (i : CamId) :
    s.storeAborted.cam i = s.cam i := by
  unfold State.storeAborted
  split <;> simp

@[simp] theorem State.cam_afterCopy (s : State) (d : Loaded) (i : CamId) :
    (s.afterCopy d).cam i = s.cam i := by
  unfold State.afterCopy
  dsimp only
  (repeat' split) <;> simp

@[simp] theorem State.cam_burstWaitEnd (s : State) (c i : CamId) :
    (s.burstWaitEnd c).cam i = s.cam i := by
  unfold State.burstWaitEnd
  split <;> simp

@[simp] theorem State.cam_followLink (s : State) (target : DescId) (i : CamId) :
    (s.followLink target).cam i = s.cam i := by
  unfold State.followLink
  dsimp only
  (repeat' split) <;> simp [State.reportEnded]

@[simp] theorem State.cam_takeEngineEnable (s : State) (i : CamId) :
    s.takeEngineEnable.cam i = s.cam i := by simp [State.takeEngineEnable]

@[simp] theorem State.cam_takeEngineDisable (s : State) (i : CamId) :
    s.takeEngineDisable.cam i = s.cam i := by simp [State.takeEngineDisable]

@[simp] theorem State.cam_takeStart (s : State) (i : CamId) : s.takeStart.cam i = s.cam i := by
  unfold State.takeStart
  dsimp only
  split <;> simp

@[simp] theorem State.cam_takeSnapshotArm (s : State) (i : CamId) :
    s.takeSnapshotArm.cam i = s.cam i := by
  unfold State.takeSnapshotArm
  dsimp only
  split <;> simp

@[simp] theorem State.cam_stepLoad (s : State) (i : CamId) : s.stepLoad.cam i = s.cam i := by
  unfold State.stepLoad
  (repeat' split) <;> simp

@[simp] theorem State.cam_stepCopyRead (s : State) (i : CamId) :
    s.stepCopyRead.cam i = s.cam i := by
  unfold State.stepCopyRead
  (repeat' split) <;> simp

@[simp] theorem State.cam_stepArmWrite (s : State) (i : CamId) :
    s.stepArmWrite.cam i = s.cam i := by
  unfold State.stepArmWrite
  (repeat' split) <;> simp

@[simp] theorem State.cam_mergeDescriptor (s : State) (o : Nat) (d : Beat) (en : Enables)
    (i : CamId) : (s.mergeDescriptor o d en).cam i = s.cam i := rfl

@[simp] theorem State.cam_reportIgnored (s : State) (o n : Nat) (i : CamId) :
    (s.reportIgnored o n).cam i = s.cam i := by
  unfold State.reportIgnored
  split <;> simp

@[simp] theorem State.cam_dropCommit (s : State) (sc : ScrId) (x : Screen) (i : CamId) :
    (s.dropCommit sc x).cam i = s.cam i := by
  unfold State.dropCommit
  split <;> simp

@[simp] theorem State.cam_restartEntries (s : State) (before : SideFlags) (x : Screen)
    (es : List Entry) (i : CamId) : (s.restartEntries before x es).cam i = s.cam i := by
  induction es generalizing s with
  | nil => rfl
  | cons e rest ih => rw [State.restartEntries, ih, State.cam_formReadWith]

@[simp] theorem State.cam_restartScreens (s old : State) (xs : List ScrId) (i : CamId) :
    (s.restartScreens old xs).cam i = s.cam i := by
  induction xs generalizing s with
  | nil => rfl
  | cons sc rest ih =>
    rw [State.restartScreens, ih, State.cam_restartEntries, State.cam_dropCommit]

@[simp] theorem State.cam_storeBeat (s : State) (c : CamId) (j : Option Nat) (b : Nat) (d : Beat)
    (en : Enables) (i : CamId) : (s.storeBeat c j b d en).cam i = s.cam i := by
  unfold State.storeBeat
  split <;> simp

@[simp] theorem State.cam_intakeRead (s : State) (c : CamId) (p : PortTag) (a : Nat) (i : CamId) :
    (s.intakeRead c p a).cam i = s.cam i := by
  unfold State.intakeRead
  dsimp only
  split <;> simp

@[simp] theorem State.cam_liveRead (s : State) (p : PortTag) (o : Nat) (i : CamId) :
    (s.liveRead p o).cam i = s.cam i :=
  (State.cam_attention _ _ _ i).trans (State.cam_answerRead ..)

@[simp] theorem State.cam_passRead (s : State) (p : PortTag) (a : Nat) (i : CamId) :
    (s.passRead p a).cam i = s.cam i := rfl

@[simp] theorem State.cam_passWrite (s : State) (p : PortTag) (a : Nat) (d : Beat) (en : Enables)
    (i : CamId) : (s.passWrite p a d en).cam i = s.cam i := rfl

@[simp] theorem State.cam_pass (s : State) (p : PortTag) (a : Nat) (op : BeatOp) (i : CamId) :
    (s.pass p a op).cam i = s.cam i := by cases op <;> rfl

@[simp] theorem State.cam_grant (s : State) (i : CamId) : s.grant.cam i = s.cam i := by
  unfold State.grant State.send
  (repeat' split) <;> rfl

@[simp] theorem State.cam_passReturn (s : State) (i : CamId) : s.passReturn.cam i = s.cam i := by
  unfold State.passReturn
  split <;> simp

@[simp] theorem State.cam_intakeReturn (s : State) (i : CamId) :
    s.intakeReturn.cam i = s.cam i := by
  unfold State.intakeReturn
  split <;> simp

@[simp] theorem State.cam_handNextFetch (s : State) (i : CamId) :
    s.handNextFetch.cam i = s.cam i := by
  unfold State.handNextFetch
  (repeat' split) <;> rfl

@[simp] theorem State.cam_handNextRecord (s : State) (i : CamId) :
    s.handNextRecord.cam i = s.cam i := by
  unfold State.handNextRecord
  (repeat' split) <;> rfl

/-! ### Cameras of which an operation reaches the settings and the slots alone -/

/-- A camera but for its settings and its slots: what only the camera's own Intake Tracker, Tile
Statistics Unit and Lens Evaluator change. -/
def Camera.inner (x : Camera) : Camera := { x with cfg := CamSettings.default, slots := [] }

@[simp] theorem Camera.inner_modSlot (x : Camera) (j : Nat) (f : Slot → Slot) :
    (x.modSlot j f).inner = x.inner := rfl

theorem State.inner_setCam (s : State) (c : CamId) (x : Camera) (h : x.inner = (s.cam c).inner)
    (i : CamId) : ((s.setCam c x).cam i).inner = (s.cam i).inner := by
  rw [State.cam_setCam]
  split
  · next hi => rw [hi, h]
  · rfl

@[simp] theorem State.inner_addTag (s : State) (c : CamId) (j t : Nat) (i : CamId) :
    ((s.addTag c j t).cam i).inner = (s.cam i).inner :=
  State.inner_setCam s c _ (Camera.inner_modSlot ..) i

@[simp] theorem State.inner_removeTag (s : State) (c : CamId) (j t : Nat) (i : CamId) :
    ((s.removeTag c j t).cam i).inner = (s.cam i).inner :=
  State.inner_setCam s c _ (Camera.inner_modSlot ..) i

@[simp] theorem State.inner_swapTag (s : State) (c : CamId) (j t u : Nat) (i : CamId) :
    ((s.swapTag c j t u).cam i).inner = (s.cam i).inner :=
  State.inner_setCam s c _ (Camera.inner_modSlot ..) i

@[simp] theorem State.inner_addTags (s : State) (xs : List (CamId × Nat × Nat)) (i : CamId) :
    ((s.addTags xs).cam i).inner = (s.cam i).inner := by
  induction xs generalizing s with
  | nil => rfl
  | cons x rest ih => rw [State.addTags, ih, State.inner_addTag]

@[simp] theorem State.inner_removeTags (s : State) (xs : List (CamId × Nat × Nat)) (i : CamId) :
    ((s.removeTags xs).cam i).inner = (s.cam i).inner := by
  induction xs generalizing s with
  | nil => rfl
  | cons x rest ih => rw [State.removeTags, ih, State.inner_removeTag]

@[simp] theorem State.inner_retireTags (s : State) (xs : List (CamId × Nat × Nat)) (i : CamId) :
    ((s.retireTags xs).cam i).inner = (s.cam i).inner := by
  induction xs generalizing s with
  | nil => rfl
  | cons x rest ih => rw [State.retireTags, ih, State.inner_swapTag]

@[simp] theorem State.inner_dropSet (s : State) (sc : ScrId) (r : SetRole) (i : CamId) :
    ((s.dropSet sc r).cam i).inner = (s.cam i).inner := by
  unfold State.dropSet
  split <;> simp

@[simp] theorem State.inner_retire (s : State) (sc : ScrId) (i : CamId) :
    ((s.retire sc).cam i).inner = (s.cam i).inner := by
  unfold State.retire
  dsimp only
  (repeat' split) <;> simp

@[simp] theorem State.inner_install (s : State) (sc : ScrId) (choice : LayoutChoice) (i : CamId) :
    ((s.install sc choice).cam i).inner = (s.cam i).inner := by simp [State.install]

@[simp] theorem State.inner_performLatch (s : State) (sc : ScrId) (i : CamId) :
    ((s.performLatch sc).cam i).inner = (s.cam i).inner := by simp [State.performLatch]

@[simp] theorem State.inner_latchDue (s : State) (sc : ScrId) (i : CamId) :
    ((s.latchDue sc).cam i).inner = (s.cam i).inner := by
  unfold State.latchDue
  dsimp only
  split <;> simp

@[simp] theorem State.inner_performOwed (s : State) (sc : ScrId) (i : CamId) :
    ((s.performOwed sc).cam i).inner = (s.cam i).inner := by
  unfold State.performOwed
  dsimp only
  split <;> simp

@[simp] theorem State.inner_releaseAfter (s : State) (sc : ScrId) (r : SetRole) (i : CamId) :
    ((s.releaseAfter sc r).cam i).inner = (s.cam i).inner := by
  unfold State.releaseAfter
  dsimp only
  (repeat' split) <;> simp [State.releaseRetiring]

@[simp] theorem State.inner_fetchReturn (s : State) (f : Fetch) (d : Beat) (i : CamId) :
    ((s.fetchReturn f d).cam i).inner = (s.cam i).inner := by
  unfold State.fetchReturn
  dsimp only
  (repeat' split) <;> simp

@[simp] theorem State.inner_releaseFallback (s : State) (c : CamId) (p : Nat) (sc : ScrId)
    (r : SetRole) (i : CamId) :
    ((s.releaseFallback c p sc r).cam i).inner = (s.cam i).inner := by
  unfold State.releaseFallback
  dsimp only
  split
  · rfl
  · split
    · rfl
    · exact State.inner_removeTag ..

@[simp] theorem State.inner_releaseFallbacks (s : State) (c : CamId) (p : Nat)
    (xs : List (ScrId × SetRole)) (i : CamId) :
    ((s.releaseFallbacks c p xs).cam i).inner = (s.cam i).inner := by
  induction xs generalizing s with
  | nil => rfl
  | cons x rest ih => rw [State.releaseFallbacks, ih, State.inner_releaseFallback]

@[simp] theorem State.inner_syncChange (s : State) (sc : ScrId) (level : Bool) (i : CamId) :
    ((s.syncChange sc level).cam i).inner = (s.cam i).inner := by
  unfold State.syncChange
  dsimp only
  (repeat' split) <;> simp

@[simp] theorem State.inner_offsetExpiry (s : State) (sc : ScrId) (i : CamId) :
    ((s.offsetExpiry sc).cam i).inner = (s.cam i).inner := by simp [State.offsetExpiry]

@[simp] theorem State.inner_cycleExpiry (s : State) (sc : ScrId) (i : CamId) :
    ((s.cycleExpiry sc).cam i).inner = (s.cam i).inner := by simp [State.cycleExpiry]

@[simp] theorem State.inner_screenRead (s : State) (sc : ScrId) (p : PortTag) (o : Nat)
    (i : CamId) : ((s.screenRead sc p o).cam i).inner = (s.cam i).inner := by
  unfold State.screenRead
  dsimp only
  split <;> simp

@[simp] theorem State.inner_dropIdleSet (s : State) (sc : ScrId) (r : SetRole) (i : CamId) :
    ((s.dropIdleSet sc r).cam i).inner = (s.cam i).inner := by
  unfold State.dropIdleSet
  split <;> simp

@[simp] theorem State.inner_takeDisable (s : State) (sc : ScrId) (i : CamId) :
    ((s.takeDisable sc).cam i).inner = (s.cam i).inner := by
  unfold State.takeDisable State.disableScreen
  dsimp only
  split <;> simp

@[simp] theorem State.inner_startCopy (s : State) (c : CamId) (j : Nat) (d : Loaded) (i : CamId) :
    ((s.startCopy c j d).cam i).inner = (s.cam i).inner := by simp [State.startCopy]

@[simp] theorem State.inner_checkLoaded (s : State) (d : Loaded) (i : CamId) :
    ((s.checkLoaded d).cam i).inner = (s.cam i).inner := by
  unfold State.checkLoaded
  dsimp only
  (repeat' split) <;> simp

@[simp] theorem State.inner_dropSource (s : State) (i : CamId) :
    (s.dropSource.cam i).inner = (s.cam i).inner := by
  unfold State.dropSource
  dsimp only
  split <;> simp

@[simp] theorem State.inner_settleAbort (s : State) (i : CamId) :
    (s.settleAbort.cam i).inner = (s.cam i).inner := by
  unfold State.settleAbort
  (repeat' split) <;> simp

@[simp] theorem State.inner_copyEnd (s : State) (i : CamId) :
    (s.copyEnd.cam i).inner = (s.cam i).inner := by
  unfold State.copyEnd
  split <;> simp

@[simp] theorem State.inner_burstNextFrame (s : State) (c : CamId) (j : Nat) (i : CamId) :
    ((s.burstNextFrame c j).cam i).inner = (s.cam i).inner := by
  unfold State.burstNextFrame
  (repeat' split) <;> simp

@[simp] theorem State.inner_endEarly (s : State) (why : Ending) (i : CamId) :
    ((s.endEarly why).cam i).inner = (s.cam i).inner := by
  unfold State.endEarly
  split <;> simp

@[simp] theorem State.inner_takeAbort (s : State) (i : CamId) :
    (s.takeAbort.cam i).inner = (s.cam i).inner := by
  unfold State.takeAbort State.abortRun
  (repeat' split) <;> simp

@[simp] theorem State.inner_loadReturn (s : State) (run : Nat) (d : Beat) (i : CamId) :
    ((s.loadReturn run d).cam i).inner = (s.cam i).inner := by
  unfold State.loadReturn
  dsimp only
  (repeat' split) <;> simp

@[simp] theorem State.inner_copyReadBack (s : State) (run : Nat) (d : Beat) (i : CamId) :
    ((s.copyReadBack run d).cam i).inner = (s.cam i).inner := by
  unfold State.copyReadBack
  (repeat' split) <;> simp

@[simp] theorem State.inner_stepCopyWrite (s : State) (i : CamId) :
    (s.stepCopyWrite.cam i).inner = (s.cam i).inner := by
  unfold State.stepCopyWrite
  dsimp only
  (repeat' split) <;> simp

@[simp] theorem State.inner_composeReturn (s : State) (i : CamId) :
    (s.composeReturn.cam i).inner = (s.cam i).inner := by
  unfold State.composeReturn
  split <;> simp

@[simp] theorem State.inner_descReturn (s : State) (i : CamId) :
    (s.descReturn.cam i).inner = (s.cam i).inner := by
  unfold State.descReturn
  split <;> simp

@[simp] theorem State.inner_copyReturn (s : State) (i : CamId) :
    (s.copyReturn.cam i).inner = (s.cam i).inner := by
  unfold State.copyReturn
  split <;> simp

@[simp] theorem State.inner_putSetting (s : State) (o : Nat) (b : Byte) (i : CamId) :
    ((s.putSetting o b).cam i).inner = (s.cam i).inner := by
  unfold State.putSetting
  split
  case h_2 c j _ =>
    refine State.inner_setCam s c _ ?_ i
    rfl
  all_goals rfl

@[simp] theorem State.inner_mergeBytes (s : State) (o : Nat) (d : Beat) (en : Enables)
    (xs : List Nat) (i : CamId) : ((s.mergeBytes o d en xs).cam i).inner = (s.cam i).inner := by
  induction xs generalizing s with
  | nil => rfl
  | cons x rest ih =>
    rw [State.mergeBytes, ih, State.mergeByte]
    (repeat' split) <;> simp

@[simp] theorem State.inner_mergeConfig (s : State) (o : Nat) (d : Beat) (en : Enables)
    (i : CamId) : ((s.mergeConfig o d en).cam i).inner = (s.cam i).inner := by
  simp [State.mergeConfig]

end Sys2Proof.Machine

/-!
The level and the verdict of every evaluator agree with its confirmed tiles after every step (R55, R57, R69).
-/
namespace Sys2Proof.Machine

/-! ### The level and the verdict of one evaluator (R47, R50, R55, R57) -/

theorem confirmedCount_zero : confirmedCount (Vector.replicate 48 Tile.zero) = 0 := by decide

theorem Evaluator.judged_clear (e : Evaluator) : e.clear.judged :=
  ⟨confirmedCount_zero.symm, by simp [Evaluator.clear]⟩

theorem countP_mapIdx_of_kept {α : Type} (p : α → Bool) (f : Nat → α → α)
    (h : ∀ i x, p (f i x) = p x) (xs : List α) : (xs.mapIdx f).countP p = xs.countP p := by
  induction xs generalizing f with
  | nil => rfl
  | cons x rest ih =>
    rw [List.mapIdx_cons, List.countP_cons, List.countP_cons, ih _ fun i => h (i + 1), h]

/-- A learning step moves baselines alone, and confirms no tile. -/
theorem Evaluator.confirmedCount_learnBaselines (e : Evaluator) (shift : Nat)
    (tex : Vector Nat 48) : confirmedCount (e.learnBaselines shift tex) = confirmedCount e.tiles := by
  rw [confirmedCount, Evaluator.learnBaselines, Vector.toList_mapIdx, countP_mapIdx_of_kept,
    confirmedCount]
  exact fun _ _ => rfl

theorem CamSettings.one_le_warnUsed (cfg : CamSettings) : 1 ≤ cfg.warnUsed := by
  unfold CamSettings.warnUsed clamp
  split
  · omega
  · split <;> omega

/-- Neither threshold reaches level 0, so CLEAN is the verdict of level 0 alone, whatever the old one. -/
theorem nextVerdict_eq_clean_iff (cfg : CamSettings) (old : Verdict) (level : Nat) :
    nextVerdict cfg old level = .clean ↔ level = 0 := by
  have hw := cfg.one_le_warnUsed
  unfold nextVerdict
  split
  · split
    · split <;> simp_all
    · simp; omega
  · split
    · simp; omega
    · split <;> simp_all

/-! ### Updates that leave every evaluator judged -/

theorem State.judged_of_inner {s t : State} (hs : s.judged)
    (h : ∀ i, (t.cam i).inner = (s.cam i).inner) : t.judged := fun i => by
  have he : (t.cam i).inner.eval = (s.cam i).inner.eval := by rw [h i]
  exact (congrArg Evaluator.judged he).mpr (hs i)

theorem State.judged_of_cam {s t : State} (hs : s.judged) (h : ∀ i, t.cam i = s.cam i) : t.judged :=
  State.judged_of_inner hs fun i => by rw [h i]

theorem State.judged_setCam {s : State} (hs : s.judged) (c : CamId) {x : Camera}
    (hx : x.eval.judged) : (s.setCam c x).judged := fun i => by
  rw [State.cam_setCam]
  split
  · exact hx
  · exact hs i

theorem State.judged_modEval {s : State} (hs : s.judged) (c : CamId) {f : Evaluator → Evaluator}
    (hf : ∀ e : Evaluator, e.judged → (f e).judged) : (s.modEval c f).judged :=
  State.judged_setCam hs c (hf _ (hs c))

theorem State.judged_answer {s : State} (hs : s.judged) (o : Owner) (r : Result) :
    (s.answer o r).judged := State.judged_of_cam hs (by simp)

/-! ### The Lens Evaluator (R47 to R67) -/

theorem State.judged_clearTables {s : State} (hs : s.judged) (c : CamId) :
    (s.clearTables c).judged := by
  have hc := State.judged_setCam hs c
    (x := { s.cam c with eval := (s.cam c).eval.clear, mapCount := (s.cam c).mapCount + 1 })
    (Evaluator.judged_clear _)
  unfold State.clearTables
  dsimp only
  split
  · exact hc
  · exact State.judged_of_cam hc (by simp)

theorem State.judged_activate {s : State} (hs : s.judged) (c : CamId) : (s.activate c).judged :=
  State.judged_modEval (State.judged_clearTables hs c) c fun _ he => he

theorem State.judged_learnStep {s : State} (hs : s.judged) (c : CamId) (seq : BitVec 32)
    (v : FrameValues) : (s.learnStep c seq v).judged := by
  unfold State.learnStep
  dsimp only
  have hl (shift progress : Nat) (st : Evaluator → EvState) :
      (s.modEval c fun e => { e with
        tiles := e.learnBaselines shift v.texture
        learnProgress := progress
        state := st e }).judged :=
    State.judged_modEval hs c fun e he =>
      ⟨he.1.trans (e.confirmedCount_learnBaselines shift v.texture).symm, he.2⟩
  split
  · exact State.judged_of_cam (hl _ _ fun _ => .watch) fun i => State.cam_report ..
  · exact hl _ _ fun e => e.state

theorem State.judged_watchStep {s : State} (hs : s.judged) (c : CamId) (seq : BitVec 32)
    (v : FrameValues) : (s.watchStep c seq v).judged := by
  unfold State.watchStep
  dsimp only
  have hw (tiles : Vector Tile 48) : (s.modEval c fun e => { e with
      tiles := tiles
      level := confirmedCount tiles
      verdict := nextVerdict (s.cam c).cfg (s.cam c).eval.verdict (confirmedCount tiles) }).judged :=
    State.judged_modEval hs c fun _ _ => ⟨rfl, nextVerdict_eq_clean_iff _ _ _⟩
  split
  · exact hw _
  · split
    · exact State.judged_of_cam (hw _) fun i =>
        (State.cam_trigger ..).trans (State.cam_reportVerdict ..)
    · exact State.judged_of_cam (hw _) fun i => State.cam_reportVerdict ..

theorem State.judged_evaluate {s : State} (hs : s.judged) (c : CamId) (seq : BitVec 32)
    (v : FrameValues) : (s.evaluate c seq v).judged := by
  unfold State.evaluate
  dsimp only
  split
  · split
    · refine State.judged_learnStep (State.judged_setCam hs c ?_) c seq v
      exact hs c
    · refine State.judged_watchStep (State.judged_setCam hs c ?_) c seq v
      exact hs c
    · exact State.judged_setCam hs c (hs c)
  · exact State.judged_setCam hs c (hs c)

theorem State.judged_countEligible {s : State} (hs : s.judged) (c : CamId) (seq : BitVec 32)
    (v : FrameValues) : (s.countEligible c seq v).judged := by
  unfold State.countEligible
  dsimp only
  split
  · refine State.judged_evaluate (State.judged_modEval hs c ?_) c seq v
    exact fun _ he => he
  · exact State.judged_modEval hs c fun _ he => he

theorem State.judged_endRestartWait {s : State} (hs : s.judged) (c : CamId) :
    (s.endRestartWait c).judged := by
  unfold State.endRestartWait
  split
  · exact State.judged_modEval hs c fun _ he => he
  · exact State.judged_modEval (State.judged_clearTables hs c) c fun _ he => he

theorem State.judged_countRestart {s : State} (hs : s.judged) (c : CamId) :
    (s.countRestart c).judged := by
  have hn (n : Nat) : (s.modEval c fun e => { e with restartCount := n }).judged :=
    State.judged_modEval hs c fun _ he => he
  unfold State.countRestart
  dsimp only
  split
  · exact State.judged_endRestartWait (hn _) c
  · exact hn _

theorem State.judged_lensCompletion {s : State} (hs : s.judged) (c : CamId) (seq : BitVec 32)
    (disordered : Bool) (v : FrameValues) : (s.lensCompletion c seq disordered v).judged := by
  have hcount : (if disordered then s else s.countEligible c seq v).judged := by
    split
    · exact hs
    · exact State.judged_countEligible hs c seq v
  unfold State.lensCompletion
  split
  · exact hcount
  · exact hcount
  · exact State.judged_countRestart hs c
  · exact hs

theorem State.judged_lensStale {s : State} (hs : s.judged) (c : CamId) : (s.lensStale c).judged :=
  State.judged_modEval hs c fun e he => by split <;> exact he

theorem State.judged_lensLive {s : State} (hs : s.judged) (c : CamId) : (s.lensLive c).judged :=
  State.judged_modEval hs c fun _ he => he

theorem State.judged_lensLost {s : State} (hs : s.judged) (c : CamId) : (s.lensLost c).judged := by
  unfold State.lensLost
  split
  · exact hs
  · exact State.judged_modEval hs c fun _ he => he
  · split
    · exact State.judged_modEval hs c fun _ he => he
    · exact State.judged_modEval (State.judged_clearTables hs c) c fun _ he => he

theorem State.judged_lensOff {s : State} (hs : s.judged) (c : CamId) : (s.lensOff c).judged := by
  unfold State.lensOff
  split
  · exact hs
  · exact State.judged_modEval (State.judged_clearTables hs c) c fun _ he => he

theorem State.judged_setMode {s : State} (hs : s.judged) (c : CamId) (m : EvMode) :
    (s.setMode c m).judged := State.judged_modEval hs c fun _ he => he

theorem State.judged_takeEvalRun {s : State} (hs : s.judged) (c : CamId) :
    (s.takeEvalRun c).judged := by
  have hm := State.judged_setMode hs c .run
  refine State.judged_answer ?_ _ _
  split
  · split
    · exact State.judged_activate hm c
    · exact hm
  · exact State.judged_modEval hm c fun _ he => he

theorem State.judged_takeEvalPause {s : State} (hs : s.judged) (c : CamId) :
    (s.takeEvalPause c).judged := by
  have hm := State.judged_setMode hs c .pause
  refine State.judged_answer ?_ _ _
  split
  · split
    · exact State.judged_activate hm c
    · exact hm
  · exact State.judged_modEval hm c fun _ he => he

theorem State.judged_takeEvalStop {s : State} (hs : s.judged) (c : CamId) :
    (s.takeEvalStop c).judged :=
  State.judged_answer (State.judged_lensOff (State.judged_setMode hs c .stop) c) _ _

theorem State.judged_relearn {s : State} (hs : s.judged) (c : CamId) (st : EvState) :
    (s.relearn c st).judged :=
  State.judged_modEval (State.judged_clearTables hs c) c fun _ he => he

theorem State.judged_takeRelearn {s : State} (hs : s.judged) (c : CamId) :
    (s.takeRelearn c).judged := by
  unfold State.takeRelearn
  split
  · exact State.judged_answer hs _ _
  · exact State.judged_answer hs _ _
  · exact State.judged_answer (State.judged_relearn hs c _) _ _
  · exact State.judged_answer (State.judged_relearn hs c _) _ _

/-! ### The Intake Tracker (R3 to R26) -/

theorem State.judged_enterLive {s : State} (hs : s.judged) (c : CamId) :
    (s.enterLive c).judged := by
  unfold State.enterLive
  dsimp only
  split
  · exact hs
  · refine State.judged_lensLive (State.judged_of_cam (State.judged_setCam hs c ?_)
      fun i => State.cam_reportChannel ..) c
    exact hs c

theorem State.judged_enterStale {s : State} (hs : s.judged) (c : CamId) :
    (s.enterStale c).judged := by
  have hc : (s.setCam c { s.cam c with chan := .stale }).judged := State.judged_setCam hs c (hs c)
  have hl := State.judged_lensStale (State.judged_of_cam hc
    fun i => State.cam_reportChannel _ .camStale c .live i) c
  unfold State.enterStale
  exact State.judged_of_cam hl (by simp)

theorem State.judged_enterLost {s : State} (hs : s.judged) (c : CamId) :
    (s.enterLost c).judged := by
  have hc : (s.setCam c { s.cam c with chan := .lost }).judged := State.judged_setCam hs c (hs c)
  have hl := State.judged_lensLost (State.judged_of_cam hc
    fun i => State.cam_reportChannel _ .camLost c (s.cam c).chan i) c
  exact State.judged_of_cam hl fun i => State.cam_burstWaitEnd ..

theorem State.judged_staleExpiry {s : State} (hs : s.judged) (c : CamId) :
    (s.staleExpiry c).judged := by
  have hc : (s.setCam c { s.cam c with staleTimer := none }).judged :=
    State.judged_setCam hs c (hs c)
  unfold State.staleExpiry
  dsimp only
  split
  · exact State.judged_enterStale hc c
  · exact hc

theorem State.judged_lostExpiry {s : State} (hs : s.judged) (c : CamId) :
    (s.lostExpiry c).judged := by
  have hc : (s.setCam c { s.cam c with lostTimer := none, staleTimer := none }).judged :=
    State.judged_setCam hs c (hs c)
  unfold State.lostExpiry
  dsimp only
  split
  · exact State.judged_enterLost hc c
  · exact hc

@[simp] theorem Camera.eval_modTarget (x : Camera) (j : Option Nat) (f : Slot → Slot) :
    (x.modTarget j f).eval = x.eval := by cases j <;> rfl

@[simp] theorem Camera.eval_takeSlot (x : Camera) (j : Option Nat) (seq : BitVec 32) :
    (x.takeSlot j seq).eval = x.eval := by cases j <;> rfl

theorem State.judged_truncate {s : State} (hs : s.judged) (c : CamId) (cause : TruncCause) :
    (s.truncate c cause).judged := by
  unfold State.truncate
  dsimp only
  split
  · exact hs
  · refine State.judged_of_cam (State.judged_setCam hs c ?_) fun i => State.cam_report ..
    simpa using hs c

theorem State.judged_gapExpiry {s : State} (hs : s.judged) (c : CamId) :
    (s.gapExpiry c).judged := by
  have hc : (s.setCam c { s.cam c with gapTimer := none }).judged := State.judged_setCam hs c (hs c)
  exact State.judged_truncate hc c .gap

theorem State.judged_frameStart {s : State} (hs : s.judged) (c : CamId) :
    (s.frameStart c).judged := by
  have ht := State.judged_truncate hs c .restarted
  unfold State.frameStart
  dsimp only
  split
  · refine State.judged_of_cam (State.judged_setCam ht c ?_) fun i => State.cam_reportDrop ..
    simpa using ht c
  · refine State.judged_setCam ht c ?_
    simpa using ht c

theorem Camera.eval_complete (x : Camera) (r : IntakeRec) (now : Time) :
    (x.complete r now).eval = x.eval := Camera.eval_modTarget ..

theorem State.judged_frameCompletion {s : State} (hs : s.judged) (c : CamId) (r : IntakeRec) :
    (s.frameCompletion c r).judged := by
  have hc : (s.setCam c ((s.cam c).complete r s.timebase)).judged :=
    State.judged_setCam hs c (by rw [Camera.eval_complete]; exact hs c)
  unfold State.frameCompletion
  dsimp only
  cases r.target with
  | none =>
    exact State.judged_lensCompletion (State.judged_enterLive hc c) c _ _ _
  | some j =>
    have hr := State.judged_of_inner hc fun i => State.inner_releaseFallbacks _ c j allSets i
    exact State.judged_of_inner (State.judged_lensCompletion (State.judged_enterLive hr c) c _ _ _)
      fun i => State.inner_burstNextFrame ..

theorem Camera.eval_afterBeat (x : Camera) (r : IntakeRec) (b : Nat) (d : Beat) (en : Enables)
    (now : Time) : (x.afterBeat r b d en now).eval = x.eval := Camera.eval_modTarget ..

theorem State.judged_frameBeat {s : State} (hs : s.judged) (c : CamId) (b : Nat) (d : Beat)
    (en : Enables) : (s.frameBeat c b d en).judged := by
  have hb (r : IntakeRec) (now : Time) : ((s.storeBeat c r.target b d en).setCam c
      ((s.cam c).afterBeat r b d en now)).judged :=
    State.judged_setCam (State.judged_of_cam hs (by simp)) c
      (by rw [Camera.eval_afterBeat]; exact hs c)
  unfold State.frameBeat
  split
  · exact hs
  · dsimp only
    split
    · exact State.judged_frameCompletion (hb _ _) c _
    · exact hb _ _

theorem State.judged_intakeWrite {s : State} (hs : s.judged) (c : CamId) (a : Nat) (d : Beat)
    (en : Enables) : (s.intakeWrite c a d en).judged := by
  unfold State.intakeWrite
  dsimp only
  split
  · exact hs
  · split
    · exact State.judged_frameBeat (State.judged_frameStart hs c) c 0 d en
    · exact State.judged_frameBeat hs c _ d en

theorem State.judged_takeArm {s : State} (hs : s.judged) (c : CamId) : (s.takeArm c).judged := by
  refine State.judged_answer ?_ _ _
  split
  · have ha : (s.setCam c ((s.cam c).arm.startTimers s.timebase)).judged :=
      State.judged_setCam hs c (hs c)
    have hv := State.judged_activate ha c
    exact State.judged_setCam hv c (hv c)
  · exact hs

theorem State.judged_takeDisarm {s : State} (hs : s.judged) (c : CamId) :
    (s.takeDisarm c).judged := by
  refine State.judged_answer ?_ _ _
  split
  · have ht := State.judged_truncate hs c .disarm
    have hd := State.judged_lensOff (State.judged_setCam ht c
      (x := { (s.truncate c .disarm).cam c with
        staleTimer := none, lostTimer := none, chan := .disarmed }) (ht c)) c
    exact State.judged_of_cam hd fun i => State.cam_burstWaitEnd ..
  · exact hs

theorem State.judged_takeSkip {s : State} (hs : s.judged) (c : CamId) : (s.takeSkip c).judged := by
  unfold State.takeSkip
  split
  · exact State.judged_answer (State.judged_truncate hs c .skip) _ _
  · exact State.judged_answer hs _ _

theorem State.judged_takeReset {s : State} (hs : s.judged) (c : CamId) :
    (s.takeReset c).judged := by
  unfold State.takeReset
  split
  · have ht := State.judged_truncate hs c .reset
    refine State.judged_answer (State.judged_activate (State.judged_setCam ht c ?_) c) _ _
    exact ht c
  · exact State.judged_answer hs _ _

/-! ### Resets (R162, R167) -/

theorem Camera.judged_powerOn : Camera.powerOn.eval.judged :=
  ⟨confirmedCount_zero.symm, by decide⟩

theorem State.judged_restartAll (s : State) : s.restartAll.judged := by
  have hb : s.restartBlocks.judged := fun i => by
    have : (s.restartBlocks.cam i) = (s.cam i).restart := by
      simp [State.restartBlocks, State.cam]
    rw [this]
    exact Camera.judged_powerOn
  exact State.judged_of_cam hb fun i => by simp [State.restartAll]

theorem State.judged_powerOn (s : State) (straps : Straps) (pins : Pins) :
    (s.powerOn straps pins).judged := fun i => by
  rw [State.powerOn, State.cam_powerOnLines]
  simpa [State.cam] using Camera.judged_powerOn

theorem State.judged_stepWriteBack {s : State} (hs : s.judged) : s.stepWriteBack.judged := by
  unfold State.stepWriteBack
  split
  · split
    · dsimp only
      split
      · exact State.judged_of_cam (State.judged_restartAll _) fun i => State.cam_answerEnd ..
      · split <;> exact State.judged_of_cam hs (by simp)
    · exact hs
  · exact hs

/-! ### The live page, the upstream port and the timers -/

theorem State.judged_takeRestart {s : State} (hs : s.judged) : s.takeRestart.judged := by
  unfold State.takeRestart
  split
  · exact State.judged_answer hs _ _
  · split
    · exact State.judged_of_inner hs (by simp)
    · exact State.judged_answer (State.judged_restartAll s) _ _

theorem State.judged_cameraRequest {s : State} (hs : s.judged) (c : CamId) (code : Byte) :
    (s.cameraRequest c code).judged := by
  unfold State.cameraRequest
  split; · exact State.judged_takeArm hs c
  split; · exact State.judged_takeDisarm hs c
  split; · exact State.judged_takeSkip hs c
  split; · exact State.judged_takeReset hs c
  split; · exact State.judged_takeEvalRun hs c
  split; · exact State.judged_takeEvalPause hs c
  split; · exact State.judged_takeEvalStop hs c
  split; · exact State.judged_takeRelearn hs c
  exact State.judged_answer hs _ _

theorem State.judged_ownerRequest {s : State} (hs : s.judged) (o : Owner) (code : Byte) :
    (s.ownerRequest o code).judged := by
  cases o with
  | part =>
    simp only [State.ownerRequest, State.partRequest]
    split
    · exact State.judged_takeRestart hs
    · exact State.judged_answer hs _ _
  | camera c => exact State.judged_cameraRequest hs c code
  | screen sc =>
    refine State.judged_of_inner hs fun i => ?_
    simp only [State.ownerRequest, State.screenRequest]
    (repeat' split) <;> simp
  | engine =>
    refine State.judged_of_inner hs fun i => ?_
    simp only [State.ownerRequest, State.engineRequest]
    (repeat' split) <;> simp

theorem State.judged_takeRequest {s : State} (hs : s.judged) (o : Owner) (code : Byte)
    (f : ReqFields) : (s.takeRequest o code f).judged := by
  unfold State.takeRequest
  split
  · exact hs
  · exact State.judged_ownerRequest (State.judged_of_cam hs (by simp)) o code

theorem State.judged_requestAt {s : State} (hs : s.judged) (o : Owner) (d : Beat) (en : Enables)
    (i : Nat) : (s.requestAt o d en i).judged := by
  unfold State.requestAt
  split
  · exact State.judged_takeRequest hs o _ _
  · exact hs

theorem State.judged_requestsAt {s : State} (hs : s.judged) (d : Beat) (en : Enables)
    (ws : List (Owner × Nat)) : (s.requestsAt d en ws).judged := by
  induction ws generalizing s with
  | nil => exact hs
  | cons w rest ih => exact ih (State.judged_requestAt hs w.1 d en w.2)

theorem State.judged_liveWrite {s : State} (hs : s.judged) (p : PortTag) (o : Nat) (d : Beat)
    (en : Enables) : (s.liveWrite p o d en).judged := by
  have hw : (s.writeDone p).judged := hs
  unfold State.liveWrite State.liveBytes
  dsimp only
  split
  · split
    · exact State.judged_of_cam hw fun i => State.cam_writeConsumer ..
    · exact hw
  · split
    · exact State.judged_requestAt hw _ _ _ _
    · split
      · exact State.judged_requestsAt hw _ _ _
      · exact hw

theorem State.judged_acceptClass {s : State} (hs : s.judged) (cl : Class) (p : PortTag) (a : Nat)
    (op : BeatOp) : (s.acceptClass cl p a op).judged := by
  unfold State.acceptClass
  split
  case h_5 => exact State.judged_liveWrite hs _ _ _ _
  case h_9 => exact State.judged_intakeWrite (s := s.writeDone p) hs _ _ _ _
  all_goals exact State.judged_of_inner hs (by simp)

theorem State.judged_acceptItem {s : State} (hs : s.judged) (x : UpItem) :
    (s.acceptItem x).judged := by
  cases x with
  | beat p a op => exact State.judged_acceptClass hs _ p _ op
  | request p o code f => exact State.judged_takeRequest (s := s.writeDone p) hs o code f
  | consumer p v => exact State.judged_of_cam hs (by simp [State.acceptItem])

theorem State.judged_present {s : State} (hs : s.judged) (x : UpItem) : (s.present x).judged := by
  unfold State.present
  split
  · exact State.judged_acceptItem hs x
  · exact hs

theorem State.judged_drain {s : State} (hs : s.judged) (xs : List UpItem) :
    (s.drain xs).judged := by
  induction xs generalizing s with
  | nil => exact hs
  | cons x rest ih =>
    unfold State.drain
    split
    · exact ih (State.judged_acceptItem hs x)
    · exact hs

theorem State.judged_settle {s : State} (hs : s.judged) : s.settle.judged :=
  State.judged_drain hs _

theorem State.judged_runOut {s : State} (hs : s.judged) (x : Timer) : (s.runOut x).judged := by
  cases x with
  | stale c => exact State.judged_staleExpiry hs c
  | lost c => exact State.judged_lostExpiry hs c
  | gap c => exact State.judged_gapExpiry hs c
  | filter l => exact State.judged_of_cam hs fun i => State.cam_filterExpiry ..
  | offset sc => exact State.judged_of_inner hs fun i => State.inner_offsetExpiry ..
  | cycle sc => exact State.judged_of_inner hs fun i => State.inner_cycleExpiry ..

theorem State.judged_expire {s : State} (hs : s.judged) (x : Timer) : (s.expire x).judged := by
  unfold State.expire
  split
  · exact State.judged_settle (State.judged_runOut hs x)
  · exact hs

theorem State.judged_expireAll {s : State} (hs : s.judged) (xs : List Timer) :
    (s.expireAll xs).judged := by
  induction xs generalizing s with
  | nil => exact hs
  | cons x rest ih => exact ih (State.judged_expire hs x)

theorem State.judged_tick {s : State} (hs : s.judged) :
    State.judged { s with
      timebase := s.timebase + 1
      cams := s.cams.map Camera.momentOver } := fun i => by
  have hi : (s.cams.map Camera.momentOver)[i] = (s.cam i).momentOver := by simp [State.cam]
  rw [State.cam, hi]
  exact hs i

/-! ### One step -/

/-- Every command answers a next state in which each evaluator is judged. -/
theorem exec_keeps_judged {s : State} (hs : s.judged) (i : Instr) :
    Gives i s State.judged := by
  have keep {t : State} (h : ∀ i, (t.cam i).inner = (s.cam i).inner) : t.settle.judged :=
    State.judged_settle (State.judged_of_inner hs h)
  cases i with
  | powerOnReset straps pins => exact ⟨_, rfl, State.judged_powerOn s straps pins⟩
  | timebaseTick => exact ⟨_, rfl, State.judged_tick (State.judged_expireAll hs allTimers)⟩
  | entrancePinChange l level =>
    refine ⟨_, rfl, ?_⟩
    split
    · exact hs
    · exact keep (by simp)
  | syncLineChange sc level =>
    refine ⟨_, rfl, ?_⟩
    split
    · exact hs
    · exact keep (by simp)
  | staleTimerExpiry | lostTimerExpiry | gapTimerExpiry | filterTimerExpiry | offsetTimerExpiry
  | cycleTimerExpiry => exact ⟨_, rfl, State.judged_expire hs _⟩
  | intakeWriteBeat | intakeReadBeat | intakeOffBeat | screenReadBeat | screenWriteBeat
  | screenOffBeat | plainBeat | configWrite | descriptorWrite | attentionSummaryRead
  | consumerIndexWrite | liveWriteAbsorbed | unknownCode | restart | restartWaitIdle | arm | disarm
  | skip | reset | evalRun | evalPause | evalStop | relearn | enable | disable | commit
  | engineEnable | engineDisable | start | snapshotArm | abort =>
    exact ⟨_, rfl, State.judged_present hs _⟩
  | descriptorWriteBack =>
    exact ⟨_, rfl, State.judged_settle (State.judged_stepWriteBack hs)⟩
  | intakeReadReturn | passReadReturn | arbiterGrant | composerFetchHanding | composerFetchReturn
  | descriptorLoad | descriptorLoadReturn | copyRead | copyReadReturn | copyWrite | armWrite
  | reportHanding => exact ⟨_, rfl, keep (by simp)⟩

/-- Settles O58: no operation but a table clearing, a watching step and a reset touches a level, a verdict or a
confirmed tile, and each of these sets them together. -/
theorem stepKeepsVerdictOfLevel : Obligations.StepKeepsVerdictOfLevel := by
  unfold Obligations.StepKeepsVerdictOfLevel
  intro s t hs hstep
  cases hp : s.pending with
  | nil =>
    rw [step_nil s hp] at hstep
    cases hstep
    exact hs
  | cons i rest =>
    rw [step_cons s i rest hp] at hstep
    obtain ⟨u, hu, hju⟩ := exec_keeps_judged (s := { s with pending := rest }) hs i
    rw [hu] at hstep
    cases hstep
    exact hju

end Sys2Proof.Machine

/-!
The requests of the evaluator (R59 to R62): the state at which a camera's request acts, what a table clearing
leaves and reports, and the answer to a request that clears the tables.
-/
namespace Sys2Proof.Machine

/-! ### The state at which a camera's request acts (R163) -/

/-- The part with the request's beat accepted and the request in camera `c`'s word. -/
def State.requested (s : State) (p : PortTag) (c : CamId) (code : Byte) (f : ReqFields) : State :=
  (s.writeDone p).setMailbox (.camera c) (((s.writeDone p).mailbox (.camera c)).take code f)

@[simp] theorem State.cam_requested (s : State) (p : PortTag) (c : CamId) (code : Byte)
    (f : ReqFields) (i : CamId) : (s.requested p c code f).cam i = s.cam i := rfl

theorem State.mailbox_requested_self (s : State) (p : PortTag) (c : CamId) (code : Byte)
    (f : ReqFields) :
    (s.requested p c code f).mailbox (.camera c) = (s.mailbox (.camera c)).take code f := by
  rw [State.requested, State.mailbox_setMailbox_self, State.mailbox_writeDone]

theorem State.mailbox_requested_of_ne (s : State) (p : PortTag) (c : CamId) (code : Byte)
    (f : ReqFields) {o : Owner} (ho : o ≠ .camera c) :
    (s.requested p c code f).mailbox o = s.mailbox o := by
  rw [State.requested, State.mailbox_setMailbox_of_ne _ _ ho, State.mailbox_writeDone]

theorem State.request_camera {s : State} (h : s.quiet) (p : PortTag) (c : CamId) {code : Byte}
    (hcode : code ≠ 0) (f : ReqFields) :
    s.request p (.camera c) code f = (s.requested p c code f).cameraRequest c code := by
  rw [State.request_eq h, State.takeRequest, if_neg hcode]
  rfl

theorem exec_evalRun {s : State} (h : s.quiet) (p : PortTag) (c : CamId) (f : ReqFields) :
    exec (.evalRun p c f) s = .next ((s.requested p c 5 f).takeEvalRun c) :=
  congrArg _ (State.request_camera h p c (by decide) f)

theorem exec_evalPause {s : State} (h : s.quiet) (p : PortTag) (c : CamId) (f : ReqFields) :
    exec (.evalPause p c f) s = .next ((s.requested p c 6 f).takeEvalPause c) :=
  congrArg _ (State.request_camera h p c (by decide) f)

theorem exec_evalStop {s : State} (h : s.quiet) (p : PortTag) (c : CamId) (f : ReqFields) :
    exec (.evalStop p c f) s = .next ((s.requested p c 7 f).takeEvalStop c) :=
  congrArg _ (State.request_camera h p c (by decide) f)

theorem exec_relearn {s : State} (h : s.quiet) (p : PortTag) (c : CamId) (f : ReqFields) :
    exec (.relearn p c f) s = .next ((s.requested p c 8 f).takeRelearn c) :=
  congrArg _ (State.request_camera h p c (by decide) f)

/-- `u` is `s` with a request of camera `c` taken, and nothing changed since but the cameras and what reports
change. -/
def State.ActedOn (s u : State) (p : PortTag) (c : CamId) (code : Byte) (f : ReqFields) : Prop :=
  ∃ cams ring attention arb,
    u = { s.requested p c code f with
      cams := cams, ring := ring, attention := attention, arb := arb }

theorem State.actedOn_requested (s : State) (p : PortTag) (c : CamId) (code : Byte)
    (f : ReqFields) : s.ActedOn (s.requested p c code f) p c code f := ⟨_, _, _, _, rfl⟩

section
variable {s u : State} {p : PortTag} {c : CamId} {code : Byte} {f : ReqFields}

theorem State.ActedOn.setCam (h : s.ActedOn u p c code f) (d : CamId) (x : Camera) :
    s.ActedOn (u.setCam d x) p c code f := by
  obtain ⟨cams, ring, attention, arb, rfl⟩ := h
  exact ⟨_, _, _, _, rfl⟩

theorem State.ActedOn.modEval (h : s.ActedOn u p c code f) (d : CamId)
    (g : Evaluator → Evaluator) : s.ActedOn (u.modEval d g) p c code f := h.setCam d _

theorem State.ActedOn.report (h : s.ActedOn u p c code f) (k : Kind) (src : Nat)
    (d0 d1 : BitVec 32) : s.ActedOn (u.report k src d0 d1) p c code f := by
  obtain ⟨cams, ring, attention, arb, rfl⟩ := h
  exact ⟨_, _, _, _, State.report_eq ..⟩

theorem State.ActedOn.clearTables (h : s.ActedOn u p c code f) (d : CamId) :
    s.ActedOn (u.clearTables d) p c code f := by
  unfold State.clearTables
  dsimp only
  split
  · exact h.setCam d _
  · exact (h.setCam d _).report ..

theorem State.ActedOn.frame (h : s.ActedOn u p c code f) (r : Result) :
    u.answer (.camera c) r = { s with
      cams := (u.answer (.camera c) r).cams
      ring := (u.answer (.camera c) r).ring
      attention := (u.answer (.camera c) r).attention
      words := (u.answer (.camera c) r).words
      port := (u.answer (.camera c) r).port
      arb := (u.answer (.camera c) r).arb } := by
  obtain ⟨cams, ring, attention, arb, rfl⟩ := h
  rfl

theorem State.ActedOn.answered (h : s.ActedOn u p c code f) (r : Result) :
    Answered s (u.answer (.camera c) r) p (.camera c) code f r := by
  obtain ⟨cams, ring, attention, arb, rfl⟩ := h
  refine ⟨rfl, ?_, fun q hq => ?_⟩
  · rw [State.mailbox_answer_self]
    exact congrArg (Mailbox.answer · r) (State.mailbox_requested_self s p c code f)
  · rw [State.mailbox_answer_of_ne _ _ hq, ← State.mailbox_requested_of_ne s p c code f hq]
    cases q <;> rfl
end

/-! ### The reports of a table clearing (R47) -/

/-- Reports neither read nor change the cameras, the words and the port. -/
theorem State.handStaged_update (s : State) (cams : Vector Camera 6) (words : Words) (port : Port)
    (xs : List Record) :
    State.handStaged { s with cams := cams, words := words, port := port } xs =
      { s.handStaged xs with cams := cams, words := words, port := port } := by
  induction xs generalizing s with
  | nil => rfl
  | cons x rest ih =>
    have hroom : State.room { s with cams := cams, words := words, port := port } .report =
      s.room .report := rfl
    rw [State.handStaged, State.handStaged, hroom]
    split
    · exact ih (s.handRecord x)
    · rfl

theorem State.report_update (s : State) (cams : Vector Camera 6) (words : Words) (port : Port)
    (k : Kind) (src : Nat) (d0 d1 : BitVec 32) :
    State.report { s with cams := cams, words := words, port := port } k src d0 d1 =
      { s.report k src d0 d1 with cams := cams, words := words, port := port } := by
  have hm : State.masked { s with
      cams := cams, words := words, port := port, attention := s.attention.set k } k =
    State.masked { s with attention := s.attention.set k } k := rfl
  unfold State.report
  dsimp only
  rw [hm]
  split
  · rfl
  · exact State.handStaged_update { s with
      attention := s.attention.set k, ring := s.ring.take k src s.timebase d0 d1 } cams words port _

theorem State.cam_modEval (s : State) (c : CamId) (g : Evaluator → Evaluator) (i : CamId) :
    (s.modEval c g).cam i =
      if i = c then { s.cam c with eval := g (s.cam c).eval } else s.cam i :=
  State.cam_setCam ..

theorem State.cam_clearTables (s : State) (c i : CamId) :
    (s.clearTables c).cam i =
      if i = c then
        { s.cam c with eval := (s.cam c).eval.clear, mapCount := (s.cam c).mapCount + 1 }
      else s.cam i := by
  unfold State.clearTables
  dsimp only
  split
  · exact State.cam_setCam ..
  · rw [State.cam_reportVerdict, State.cam_setCam]

/-- A report at a state that differs from `s` in cameras, words and port alone is a report at `s`. -/
theorem State.reported_of_update {s u : State}
    (hu : u = { s with cams := u.cams, words := u.words, port := u.port }) (k : Kind) (src : Nat)
    (d0 d1 : BitVec 32) : Reported s (u.report k src d0 d1) k src d0 d1 := by
  rw [hu, State.report_update]
  exact ⟨rfl, rfl, rfl⟩

theorem State.clearingReported_clearTables {s u : State}
    (hu : u = { s with cams := u.cams, words := u.words, port := u.port }) {c : CamId}
    (hv : (u.cam c).eval.verdict = (s.cam c).eval.verdict) :
    Claim.clearingReported s (u.clearTables c) c := by
  unfold Claim.clearingReported
  rw [← hv]
  unfold State.clearTables
  dsimp only
  split
  · rw [hu]
    exact ⟨rfl, rfl, rfl⟩
  · refine State.reported_of_update ?_ .verdict c.val _ 0
    rw [hu]
    rfl

/-! ### Requests that clear the tables (R47, R59 to R62) -/

@[simp] theorem State.cam_setMode_self (s : State) (c : CamId) (m : EvMode) :
    (s.setMode c m).cam c = { s.cam c with eval := { (s.cam c).eval with mode := m } } :=
  State.cam_setCam_self ..

/-- `u` is `s` with a request of camera `c` taken, and nothing changed since but that camera, its verdict kept. -/
structure State.Begun (s u : State) (p : PortTag) (c : CamId) (code : Byte) (f : ReqFields) :
    Prop where
  state : u = { s.requested p c code f with cams := u.cams }
  others : OthersKept s u c
  verdict : (u.cam c).eval.verdict = (s.cam c).eval.verdict

theorem State.begun_requested (s : State) (p : PortTag) (c : CamId) (code : Byte)
    (f : ReqFields) : s.Begun (s.requested p c code f) p c code f := ⟨rfl, fun _ _ => rfl, rfl⟩

theorem State.begun_setMode (s : State) (p : PortTag) (c : CamId) (code : Byte)
    (f : ReqFields) (m : EvMode) : s.Begun ((s.requested p c code f).setMode c m) p c code f where
  state := rfl
  others _ hd := State.cam_setCam_of_ne _ _ hd
  verdict := by rw [State.cam_setMode_self, State.cam_requested]

section
variable {s u : State} {p : PortTag} {c : CamId} {code : Byte} {f : ReqFields}

theorem State.Begun.actedOn (h : s.Begun u p c code f) : s.ActedOn u p c code f :=
  ⟨_, _, _, _, h.state⟩

theorem State.Begun.noReport (h : s.Begun u p c code f) (r : Result) :
    NoReport s (u.answer (.camera c) r) := by
  rw [h.state]
  exact ⟨rfl, rfl, rfl⟩

theorem State.Begun.othersKept (h : s.Begun u p c code f) (r : Result) :
    OthersKept s (u.answer (.camera c) r) c := fun d hd => by
  rw [State.cam_answer, h.others d hd]

/-- The answer to a request that clears the tables and then changes the evaluator by `g`. -/
def State.clearedBy (u : State) (c : CamId) (g : Evaluator → Evaluator) : State :=
  ((u.clearTables c).modEval c g).answer (.camera c) .done

theorem State.cam_clearedBy (u : State) (c : CamId) (g : Evaluator → Evaluator) :
    (u.clearedBy c g).cam c =
      { u.cam c with eval := g (u.cam c).eval.clear, mapCount := (u.cam c).mapCount + 1 } := by
  rw [State.clearedBy, State.cam_answer, State.cam_modEval, if_pos rfl, State.cam_clearTables,
    if_pos rfl]

theorem State.Begun.othersKept_clearedBy (h : s.Begun u p c code f) (g : Evaluator → Evaluator) :
    OthersKept s (u.clearedBy c g) c := fun d hd => by
  rw [State.clearedBy, State.cam_answer, State.cam_modEval, if_neg hd, State.cam_clearTables,
    if_neg hd, h.others d hd]

theorem State.Begun.reported_clearedBy (h : s.Begun u p c code f) (g : Evaluator → Evaluator) :
    Claim.clearingReported s (u.clearedBy c g) c := by
  refine State.clearingReported_clearTables (s := s) (u := u) ?_ h.verdict
  rw [h.state]
  rfl

theorem State.Begun.actedOn_clearedBy (h : s.Begun u p c code f) (g : Evaluator → Evaluator) :
    s.ActedOn ((u.clearTables c).modEval c g) p c code f :=
  (h.actedOn.clearTables c).modEval c g
end

end Sys2Proof.Machine

/-!
The three families of the evaluator's requests settled: RELEARN (R62), EVAL_RUN and EVAL_PAUSE (R48, R49, R59, R60),
EVAL_STOP (R61).
-/
namespace Sys2Proof.Machine

/-! ### What a clearing request brings -/

/-- What a request of camera `c` brings that clears the tables and leaves the evaluator `e'`. -/
structure State.Clearing (s t : State) (p : PortTag) (c : CamId) (code : Byte) (f : ReqFields)
    (e' : Evaluator) : Prop where
  answered : Answered s t p (.camera c) code f .done
  eval : (t.cam c).eval = e'
  cam : t.cam c = { s.cam c with eval := (t.cam c).eval, mapCount := (s.cam c).mapCount + 1 }
  reported : Claim.clearingReported s t c
  others : OthersKept s t c
  frame : t = { s with
    cams := t.cams
    ring := t.ring
    attention := t.attention
    words := t.words
    port := t.port
    arb := t.arb }

theorem State.Begun.clearing {s u : State} {p : PortTag} {c : CamId} {code : Byte} {f : ReqFields}
    (h : s.Begun u p c code f) {e : Evaluator} (he : u.cam c = { s.cam c with eval := e })
    (g : Evaluator → Evaluator) : s.Clearing (u.clearedBy c g) p c code f (g e.clear) where
  answered := (h.actedOn_clearedBy g).answered .done
  eval := by rw [State.cam_clearedBy, he]
  cam := by rw [State.cam_clearedBy, he]
  reported := h.reported_clearedBy g
  others := h.othersKept_clearedBy g
  frame := (h.actedOn_clearedBy g).frame .done

/-! ### RELEARN (R62) -/

/-- The evaluator `e` with learning started anew in state `st`. -/
def Evaluator.relearned (e : Evaluator) (st : EvState) : Evaluator :=
  { e.clear with
    state := st
    relearnCount := if st.isPaused then none else some (e.relearnCount.getD e.eligible) }

theorem State.clearing_relearn (s : State) (p : PortTag) (c : CamId) (code : Byte) (f : ReqFields)
    (st : EvState) :
    s.Clearing (((s.requested p c code f).relearn c st).answer (.camera c) .done) p c code f
      ((s.cam c).eval.relearned st) :=
  (s.begun_requested p c code f).clearing (e := (s.cam c).eval) rfl _

theorem Evaluator.relearnt_learn {e : Evaluator} (h : e.state = .learn ∨ e.state = .watch) :
    Claim.relearnt e (e.relearned .learn) := by
  unfold Claim.relearnt
  rcases h with h | h <;> rw [h] <;> exact ⟨⟨rfl, rfl, rfl, rfl, rfl, rfl⟩, rfl, rfl, rfl, rfl, rfl⟩

theorem Evaluator.relearnt_hold {e : Evaluator} {paused stale : Bool} {q : Resume}
    (h : e.state = .hold paused stale q) :
    Claim.relearnt e (e.relearned (.hold paused stale .learn)) := by
  unfold Claim.relearnt
  rw [h]
  cases paused <;> exact ⟨⟨rfl, rfl, rfl, rfl, rfl, rfl⟩, rfl, rfl, rfl, rfl, rfl⟩

/-- Settles O33, by the evaluator's state: RELEARN is refused in OFF, is done without effect in RESTART_WAIT, and
else starts learning anew. -/
theorem relearnByState : Obligations.RelearnByState := by
  unfold Obligations.RelearnByState
  intro s p c f hq
  have hb := s.begun_requested p c 8 f
  have hc := s.clearing_relearn p c 8 f
  refine ⟨_, exec_relearn hq p c f, ?_⟩
  unfold State.takeRelearn
  rw [State.cam_requested]
  cases hst : (s.cam c).eval.state with
  | off => exact ⟨hb.actedOn.answered _, rfl, hb.othersKept _, rfl⟩
  | restartWait => exact ⟨hb.actedOn.answered _, rfl, hb.othersKept _, rfl⟩
  | learn =>
    obtain ⟨hans, heval, hcam, hrep, hothers, hframe⟩ := hc .learn
    exact ⟨hans, ⟨heval ▸ Evaluator.relearnt_learn (.inl hst), hcam, hrep⟩, hothers, hframe⟩
  | watch =>
    obtain ⟨hans, heval, hcam, hrep, hothers, hframe⟩ := hc .learn
    exact ⟨hans, ⟨heval ▸ Evaluator.relearnt_learn (.inr hst), hcam, hrep⟩, hothers, hframe⟩
  | hold paused stale q =>
    obtain ⟨hans, heval, hcam, hrep, hothers, hframe⟩ := hc (.hold paused stale .learn)
    exact ⟨hans, ⟨heval ▸ Evaluator.relearnt_hold hst, hcam, hrep⟩, hothers, hframe⟩

/-! ### EVAL_RUN and EVAL_PAUSE of an evaluator that is not OFF (R59, R60) -/

theorem State.setCam_setCam (s : State) (c : CamId) (x y : Camera) :
    (s.setCam c x).setCam c y = s.setCam c y := by
  simp [State.setCam]

theorem EvState.removePaused_eq_unpaused (st : EvState) :
    st.removePaused = Claim.unpaused st := by
  cases st with
  | hold paused stale q => cases stale <;> cases q <;> rfl
  | _ => rfl

theorem EvState.addPaused_eq_paused (st : EvState) :
    st.addCauses true false = Claim.paused st := by
  cases st with
  | hold paused stale q =>
    simp [EvState.addCauses, Claim.paused]
  | _ => rfl

theorem State.takeEvalRun_of_on {s : State} {c : CamId} (h : (s.cam c).eval.state ≠ .off) :
    s.takeEvalRun c =
      (s.setCam c { s.cam c with
        eval := { (s.cam c).eval with
          mode := .run
          state := Claim.unpaused (s.cam c).eval.state } }).answer (.camera c) .done := by
  unfold State.takeEvalRun
  dsimp only
  split
  · next hst =>
    rw [State.cam_setMode_self] at hst
    exact absurd hst h
  · rw [State.modEval, State.cam_setMode_self, State.setMode, State.modEval, State.setCam_setCam,
      EvState.removePaused_eq_unpaused]

theorem State.takeEvalPause_of_on {s : State} {c : CamId} (h : (s.cam c).eval.state ≠ .off) :
    s.takeEvalPause c =
      (s.setCam c { s.cam c with
        eval := { (s.cam c).eval with
          mode := .pause
          state := Claim.paused (s.cam c).eval.state
          relearnCount := none } }).answer (.camera c) .done := by
  unfold State.takeEvalPause
  dsimp only
  split
  · next hst =>
    rw [State.cam_setMode_self] at hst
    exact absurd hst h
  · rw [State.modEval, State.cam_setMode_self, State.setMode, State.modEval, State.setCam_setCam,
      EvState.addPaused_eq_paused]

theorem evalRunOrPause_of_on (s : State) (p : PortTag) (c : CamId) (f : ReqFields) (pause : Bool) :
    Claim.RunOrPause s p c f pause := by
  intro hq hon
  cases pause with
  | false =>
    refine ⟨_, exec_evalRun hq p c f, ?_⟩
    rw [State.takeEvalRun_of_on (s := s.requested p c 5 f) hon]
    exact ⟨((s.actedOn_requested p c 5 f).setCam c _).answered .done, rfl⟩
  | true =>
    refine ⟨_, exec_evalPause hq p c f, ?_⟩
    rw [State.takeEvalPause_of_on (s := s.requested p c 6 f) hon]
    exact ⟨((s.actedOn_requested p c 6 f).setCam c _).answered .done, rfl⟩

/-! ### EVAL_RUN and EVAL_PAUSE of an evaluator that is OFF (R48) -/

/-- The mode set by EVAL_RUN, or EVAL_PAUSE, on an evaluator that is OFF, with the activation it brings. -/
def State.switchOn (s : State) (c : CamId) (m : EvMode) : State :=
  if (s.cam c).armed then (s.setMode c m).activate c else s.setMode c m

theorem State.takeEvalRun_of_off {s : State} {c : CamId} (h : (s.cam c).eval.state = .off) :
    s.takeEvalRun c = (s.switchOn c .run).answer (.camera c) .done := by
  unfold State.takeEvalRun State.switchOn
  dsimp only
  rw [State.cam_setMode_self, h]
  rfl

theorem State.takeEvalPause_of_off {s : State} {c : CamId} (h : (s.cam c).eval.state = .off) :
    s.takeEvalPause c = (s.switchOn c .pause).answer (.camera c) .done := by
  unfold State.takeEvalPause State.switchOn
  dsimp only
  rw [State.cam_setMode_self, h]
  rfl

theorem activated_eq_activation (pause keep : Bool) (ch : Channel) :
    activated (if pause then .pause else .run) ch keep = Claim.activation pause keep ch := by
  cases ch with
  | lost => cases pause <;> cases keep <;> rfl
  | _ => cases pause <;> rfl

theorem State.switchOn_of_disarmed {s : State} {c : CamId} (h : (s.cam c).chan = .disarmed)
    (m : EvMode) : s.switchOn c m = s.setMode c m := by
  simp [State.switchOn, Camera.armed, h]

theorem State.switchOn_of_armed {s : State} {c : CamId} (h : (s.cam c).chan ≠ .disarmed)
    (m : EvMode) : s.switchOn c m = (s.setMode c m).activate c := by
  simp [State.switchOn, Camera.armed, h]

/-- The evaluator `e` activated in mode `m` on a camera with the channel state and recovery given. -/
def Evaluator.activatedIn (e : Evaluator) (m : EvMode) (ch : Channel) (keep : Bool) : Evaluator :=
  { e.clear with mode := m, state := activated m ch keep, restartCount := 0 }

theorem State.clearing_activate (s : State) (p : PortTag) (c : CamId) (code : Byte) (f : ReqFields)
    (m : EvMode) :
    s.Clearing ((((s.requested p c code f).setMode c m).activate c).answer (.camera c) .done) p c
      code f ((s.cam c).eval.activatedIn m (s.cam c).chan (s.cam c).cfg.keep) := by
  have hx := State.cam_clearTables ((s.requested p c code f).setMode c m) c c
  rw [if_pos rfl, State.cam_setMode_self, State.cam_requested] at hx
  unfold State.activate
  dsimp only
  rw [hx]
  exact (s.begun_setMode p c code f m).clearing (State.cam_setMode_self ..) _

theorem exec_of_off {s : State} (hq : s.quiet) {c : CamId} (h : (s.cam c).eval.state = .off)
    (p : PortTag) (f : ReqFields) (pause : Bool) :
    exec (if pause then .evalPause p c f else .evalRun p c f) s =
      .next (((s.requested p c (if pause then 6 else 5) f).switchOn c
        (if pause then .pause else .run)).answer (.camera c) .done) := by
  cases pause with
  | false =>
    exact (exec_evalRun hq p c f).trans
      (congrArg _ (State.takeEvalRun_of_off (s := s.requested p c 5 f) h))
  | true =>
    exact (exec_evalPause hq p c f).trans
      (congrArg _ (State.takeEvalPause_of_off (s := s.requested p c 6 f) h))

theorem evalRunOrPause_of_off (s : State) (p : PortTag) (c : CamId) (f : ReqFields) (pause : Bool) :
    Claim.Activates s p c f pause := by
  intro hq hoff
  refine ⟨_, exec_of_off hq hoff p f pause, ?_⟩
  dsimp only
  by_cases hch : (s.cam c).chan = .disarmed
  · rw [if_pos hch, State.switchOn_of_disarmed (s := s.requested _ _ _ _) hch]
    have hb := s.begun_setMode p c (if pause then 6 else 5) f (if pause then .pause else .run)
    refine ⟨hb.actedOn.answered _, ⟨?_, hb.noReport _⟩, hb.othersKept _, hb.actedOn.frame _⟩
    rw [State.cam_answer, State.cam_setMode_self, State.cam_requested]
  · rw [if_neg hch, State.switchOn_of_armed (s := s.requested _ _ _ _) hch]
    obtain ⟨hans, heval, hcam, hrep, hothers, hframe⟩ :=
      s.clearing_activate p c (if pause then 6 else 5) f (if pause then .pause else .run)
    refine ⟨hans, ⟨?_, ?_, ?_, ?_, ?_, hcam, hrep⟩, hothers, hframe⟩
    · rw [heval, ← activated_eq_activation]; rfl
    · rw [heval]; rfl
    · rw [heval]; exact ⟨rfl, rfl, rfl, rfl, rfl, rfl⟩
    · rw [heval]; rfl
    · rw [heval]; rfl

/-! ### EVAL_STOP (R61) -/

theorem State.clearing_lensOff {s : State} {c : CamId} (h : (s.cam c).eval.state ≠ .off)
    (p : PortTag) (code : Byte) (f : ReqFields) (m : EvMode) :
    s.Clearing ((((s.requested p c code f).setMode c m).lensOff c).answer (.camera c) .done) p c
      code f { (s.cam c).eval.clear with mode := m, state := .off, restartCount := 0 } := by
  unfold State.lensOff
  split
  · next hst =>
    rw [State.cam_setMode_self] at hst
    exact absurd hst h
  · exact (s.begun_setMode p c code f m).clearing (State.cam_setMode_self ..) _

theorem evalStop_answers (s : State) (p : PortTag) (c : CamId) (f : ReqFields) :
    Claim.Stops s p c f := by
  intro hq
  refine ⟨_, exec_evalStop hq p c f, ?_⟩
  dsimp only
  unfold State.takeEvalStop
  by_cases hoff : (s.cam c).eval.state = .off
  · have hb := s.begun_setMode p c 7 f .stop
    have hkeep : ((s.requested p c 7 f).setMode c .stop).lensOff c =
        (s.requested p c 7 f).setMode c .stop := by
      simp [State.lensOff, hoff]
    rw [if_pos hoff, hkeep]
    refine ⟨hb.actedOn.answered _, ⟨?_, hb.noReport _⟩, hb.othersKept _, hb.actedOn.frame _⟩
    rw [State.cam_answer, State.cam_setMode_self, State.cam_requested]
  · obtain ⟨hans, heval, hcam, hrep, hothers, hframe⟩ := State.clearing_lensOff hoff p 7 f .stop
    rw [if_neg hoff]
    refine ⟨hans, ⟨?_, ?_, ?_, ?_, hcam, hrep⟩, hothers, hframe⟩
    · rw [heval]
    · rw [heval]
    · rw [heval]; exact ⟨rfl, rfl, rfl, rfl, rfl, rfl⟩
    · rw [heval]; rfl

/-- Settles O32, by its three clauses: an evaluator that is not OFF, one that is, and EVAL_STOP. -/
theorem evalRequests : Obligations.EvalRequests :=
  ⟨evalRunOrPause_of_on, evalRunOrPause_of_off, evalStop_answers⟩

end Sys2Proof.Machine

/-!
Hardware events at the Snapshot Engine and the entrance lines (R71 to R78, R126, R131): what an event does to the
engine, what the filter of a line does in each of its cases, and the lines of a power-on reset.
-/
namespace Sys2Proof.Machine

/-! ### Hardware events at the engine (R126, R131) -/

/-- The engine after a hardware event. -/
def Engine.afterEvent (e : Engine) (ev : HwEvent) : Engine :=
  (e.addAll (allDescs.filter fun n => (e.copyOf n).hit ev)).wake

theorem State.trigger_eq (s : State) (ev : HwEvent) :
    s.trigger ev = s.setEngine (s.engine.afterEvent ev) := rfl

theorem mem_allDescs (n : DescId) : n ∈ allDescs := by revert n; decide

theorem nodup_allDescs : allDescs.Nodup := by decide

@[simp] theorem getElem_descBit (n m : DescId) : (descBit n)[m.val] = decide (m = n) := by
  revert n m; decide

theorem toNat_satInc (x : BitVec 16) : (satInc x).toNat = min 65535 (x.toNat + 1) := by
  unfold satInc
  split
  · next h => subst h; rfl
  · next h => bv_omega

theorem Engine.isPending_add (e : Engine) (n m : DescId) :
    (e.add n).isPending m = (e.isPending m || decide (m = n)) := by
  unfold Engine.add
  split
  · next h => by_cases hm : m = n <;> simp_all [Engine.isPending]
  · simp [Engine.isPending]

/-- Adding descriptors to the pending set changes that set and the coalesced count alone. -/
theorem Engine.addAll_eq (e : Engine) (ns : List DescId) :
    e.addAll ns =
      { e with pending := (e.addAll ns).pending, coalesced := (e.addAll ns).coalesced } := by
  induction ns generalizing e with
  | nil => rfl
  | cons n rest ih =>
    rw [Engine.addAll, ih]
    unfold Engine.add
    split <;> rfl

theorem Engine.isPending_addAll (e : Engine) (ns : List DescId) (m : DescId) :
    (e.addAll ns).isPending m = (e.isPending m || decide (m ∈ ns)) := by
  induction ns generalizing e with
  | nil => simp [Engine.addAll]
  | cons n rest ih => simp [Engine.addAll, ih, Engine.isPending_add, Bool.or_assoc]

/-- Each descriptor that is pending already raises the coalesced count, which saturates (R126). -/
theorem Engine.coalesced_addAll (e : Engine) {ns : List DescId} (h : ns.Nodup) :
    (e.addAll ns).coalesced.toNat = min 65535 (e.coalesced.toNat + ns.countP e.isPending) := by
  induction ns generalizing e with
  | nil =>
    have := e.coalesced.isLt
    simp only [Engine.addAll, List.countP_nil]
    omega
  | cons n rest ih =>
    obtain ⟨hn, hrest⟩ := List.nodup_cons.mp h
    have hcount : rest.countP (e.add n).isPending = rest.countP e.isPending := by
      refine List.countP_congr fun m hm => ?_
      have : m ≠ n := fun he => hn (he ▸ hm)
      simp [Engine.isPending_add, this]
    rw [Engine.addAll, ih _ hrest, hcount, List.countP_cons]
    unfold Engine.add
    split
    · rw [toNat_satInc]; omega
    · simp

theorem Engine.wake_of_not_idle {e : Engine} (h : e.state ≠ .idle) : e.wake = e := if_neg h

/-- With nothing pending an event raises no coalesced count. -/
theorem Engine.coalesced_addAll_of_none (e : Engine) {ns : List DescId} (h : ns.Nodup)
    (hp : e.pending = 0) : (e.addAll ns).coalesced = e.coalesced := by
  have hcount : ns.countP e.isPending = 0 :=
    List.countP_eq_zero.mpr fun m _ => by simp [Engine.isPending, hp]
  have := e.coalesced.isLt
  have hc := e.coalesced_addAll h
  exact BitVec.eq_of_toNat_eq (by omega)

theorem Engine.select_of_none {e : Engine} (hc : e.continuation = none) (he : e.enable = true)
    (h : e.firstPending = none) : e.select = { e with state := .idle } := by
  simp only [Engine.select, hc, if_pos he, h]

/-- An enabled engine with nothing to continue loads the lowest pending descriptor (R131). -/
theorem Engine.select_of_some {e : Engine} {n : DescId} (hc : e.continuation = none)
    (he : e.enable = true) (h : e.firstPending = some n) :
    e.select = e.loads n (e.pending &&& ~~~(descBit n)) := by
  simp only [Engine.select, hc, if_pos he, h]
  rfl

/-- An IDLE engine with nothing pending selects among the descriptors that match the event (R126, R131). -/
theorem Engine.afterEvent_of_idle {e : Engine} (hi : e.state = .idle) (hp : e.pending = 0)
    (ev : HwEvent) :
    ∃ pending, e.afterEvent ev = Engine.select { e with pending := pending } ∧
      Engine.isPending { e with pending := pending } = fun m => (e.copyOf m).hit ev := by
  obtain ⟨u, hu⟩ : ∃ u, u = e.addAll (allDescs.filter fun n => (e.copyOf n).hit ev) := ⟨_, rfl⟩
  have hframe : u = { e with pending := u.pending } := by
    have hco := e.coalesced_addAll_of_none (nodup_allDescs.filter fun n => (e.copyOf n).hit ev) hp
    rw [hu, Engine.addAll_eq, hco]
  refine ⟨u.pending, ?_, ?_⟩
  · rw [← hframe, Engine.afterEvent, ← hu, Engine.wake, if_pos (by rw [hframe]; exact hi)]
  · funext m
    have hnone : e.isPending m = false := by simp [Engine.isPending, hp]
    rw [← hframe, hu, Engine.isPending_addAll, hnone]
    simp [mem_allDescs]

theorem Engine.takesEvent_afterEvent (e : Engine) (ev : HwEvent) :
    e.takesEvent (e.afterEvent ev) ev := by
  unfold Engine.takesEvent
  split
  · next hi =>
    intro he hp hc
    obtain ⟨pending, hsel, hpend⟩ := Engine.afterEvent_of_idle hi hp ev
    have hfirst : Engine.firstPending { e with pending := pending } =
        allDescs.find? fun n => (e.copyOf n).hit ev := congrArg (allDescs.find? ·) hpend
    split
    · next hnone =>
      have hzero : pending = 0 := by
        refine BitVec.eq_of_getLsbD_eq fun i hlt => (congrFun hpend ⟨i, hlt⟩).trans ?_
        simpa using List.find?_eq_none.mp hnone ⟨i, hlt⟩ (mem_allDescs _)
      rw [hsel, Engine.select_of_none (e := { e with pending := pending }) hc he (hfirst.trans hnone),
        hzero, ← hp, ← hi]
    · next n hn =>
      rw [hsel, Engine.select_of_some (e := { e with pending := pending }) hc he (hfirst.trans hn)]
      refine ⟨rfl, fun m => ?_⟩
      have hm : pending.getLsbD m.val = (e.copyOf m).hit ev := congrFun hpend m
      show (pending &&& ~~~(descBit n)).getLsbD m.val = _
      rw [BitVec.getLsbD_and, hm]
      simp [bne, Bool.beq_eq_decide_eq]
  · next hi =>
    have hwake : e.afterEvent ev = e.addAll (allDescs.filter fun n => (e.copyOf n).hit ev) :=
      Engine.wake_of_not_idle (by rw [Engine.addAll_eq]; exact hi)
    rw [hwake]
    refine ⟨fun n => ?_, ?_, Engine.addAll_eq ..⟩
    · simp [Engine.isPending_addAll, mem_allDescs]
    · rw [Engine.coalesced_addAll _ (nodup_allDescs.filter _), List.countP_filter]

/-! ### The filter of a line (R73, R74) -/

@[simp] theorem State.setLine_setLine (s : State) (l : LineId) (x y : Line) :
    (s.setLine l x).setLine l y = s.setLine l y := by
  simp [State.setLine]

/-- An edge is formed: the accepted level takes the raw level (R74). -/
def Line.accept (x : Line) : Line :=
  { x with accepted := x.raw, filterTimer := none, edges := x.edges + 1 }

/-- The raw level is back at the accepted level: a filter run is cancelled, and counted (R73). -/
def Line.cancel (x : Line) : Line :=
  { x with
    filterTimer := none
    rejected := if x.filterTimer.isSome then x.rejected + 1 else x.rejected }

/-- A filter run begins at the Timebase value given (R73). -/
def Line.run (x : Line) (now : Time) : Line :=
  { x with filterTimer := some (now + x.cfg.filterTime.setWidth 32) }

theorem State.formEdge_eq (s : State) (l : LineId) :
    s.formEdge l = { s with
      lines := (s.setLine l (s.line l).accept).lines
      engine := s.engine.afterEvent (.edge l (s.line l).raw) } := rfl

theorem State.filterLine_of_back {s : State} {l : LineId}
    (h : (s.line l).raw = (s.line l).accepted) : s.filterLine l = s.setLine l (s.line l).cancel :=
  if_pos h

theorem State.filterLine_of_run {s : State} {l : LineId}
    (h : (s.line l).raw ≠ (s.line l).accepted) (ht : (s.line l).cfg.filterTime ≠ 0) :
    s.filterLine l = s.setLine l ((s.line l).run s.timebase) := by
  have htime : timeAfter s.timebase (s.line l).cfg.filterTime.toNat =
      s.timebase + (s.line l).cfg.filterTime.setWidth 32 := by
    rw [timeAfter, BitVec.ofNat_toNat]
  simp only [State.filterLine, if_neg h, if_neg ht, htime]
  rfl

theorem State.filterLine_of_edge {s : State} {l : LineId}
    (h : (s.line l).raw ≠ (s.line l).accepted) (ht : (s.line l).cfg.filterTime = 0) :
    s.filterLine l = s.formEdge l := by
  simp only [State.filterLine, if_neg h, if_pos ht]

/-! ### Changes of a pin (R73) -/

/-- The line with its pin at the level given and its raw level formed (R73). -/
def Line.atPin (x : Line) (level : Bool) : Line :=
  { x with pin := level, raw := level != x.cfg.activeLow }

theorem exec_entrancePinChange {s : State} {l : LineId} {level : Bool} (h : (s.line l).pin ≠ level)
    {t : State} (ht : (s.setLine l ((s.line l).atPin level)).filterLine l = t)
    (hq : t.port.held = []) : exec (.entrancePinChange l level) s = .next t := by
  have hp : s.pinChange l level = t := ht
  show Host.Outcome.next (if (s.line l).pin = level then s else (s.pinChange l level).settle) = _
  rw [if_neg h, hp, State.settle_of_empty hq]

/-- Settles O5, by the three cases of R73: back at the accepted level, a filter run, an edge at once. -/
theorem pinChangeFilters : Obligations.PinChangeFilters := by
  intro s l level hq hpin x raw
  have hline : (s.setLine l (x.atPin level)).line l = x.atPin level := State.line_setLine_self ..
  refine ⟨fun hback => ?_, fun haway htime => ?_, fun haway htime => ?_⟩
  · refine exec_entrancePinChange hpin ?_ hq
    rw [State.filterLine_of_back (by rw [hline]; exact hback), hline, State.setLine_setLine]
    rfl
  · refine exec_entrancePinChange hpin ?_ hq
    rw [State.filterLine_of_run (by rw [hline]; exact haway) (by rw [hline]; exact htime), hline,
      State.setLine_setLine]
    rfl
  · refine ⟨_, exec_entrancePinChange hpin (State.filterLine_of_edge (by rw [hline]; exact haway)
      (by rw [hline]; exact htime)) hq, ?_⟩
    rw [State.formEdge_eq, hline, State.setLine_setLine]
    exact ⟨rfl, Engine.takesEvent_afterEvent .., rfl⟩

/-- Settles O6: away from the accepted level the expiry forms the edge. -/
theorem filterExpiryFormsEdge : Obligations.FilterExpiryFormsEdge := by
  intro s l hq hdue haway
  have hdue : s.timer (.filter l) = some s.timebase := hdue
  have hrun : s.runOut (.filter l) = s.formEdge l := if_neg haway
  refine ⟨s.formEdge l, ?_, rfl, Engine.takesEvent_afterEvent .., rfl⟩
  show Host.Outcome.next (s.expire (.filter l)) = _
  rw [State.expire_of_due hdue (by rw [hrun]; exact hq), hrun]

/-! ### The lines of a power-on reset (R78) -/

theorem LineSettings.activeLow_default : LineSettings.default.activeLow = false := by decide

/-- A line after a power-on reset with its pin at the level given (R78). -/
def Line.powerOn (pin : Bool) : Line :=
  { Line.powerOnLow with
    pin := pin
    raw := pin
    filterTimer := if pin then some 20000 else none }

theorem State.setUpLine_powerOnLow {s : State} {l : LineId} (h : s.line l = Line.powerOnLow)
    (hnow : s.timebase = 0) (pin : Bool) : s.setUpLine l pin = s.setLine l (Line.powerOn pin) := by
  unfold State.setUpLine
  dsimp only
  rw [h, State.line_setLine_self]
  cases pin with
  | false => rfl
  | true =>
    have haway : Line.powerOnLow.cfg.rawOf true ≠ false := by decide
    have htime : Line.powerOnLow.cfg.filterTime ≠ 0 := by decide
    rw [if_pos (by decide), State.filterLine_of_run (by rw [State.line_setLine_self]; exact haway)
      (by rw [State.line_setLine_self]; exact htime), State.line_setLine_self,
      State.setLine_setLine, State.timebase_setLine, hnow]
    rfl

/-- The lines set up one after the other: each listed one as its pin has it, and nothing else changes. -/
theorem State.powerOnLines_spec (s : State) (pins : Vector Bool 4) {ls : List LineId}
    (hnd : ls.Nodup) (hlow : ∀ l ∈ ls, s.line l = Line.powerOnLow) (hnow : s.timebase = 0) :
    (∀ l, (s.powerOnLines pins ls).line l =
        if l ∈ ls then Line.powerOn pins[l] else s.line l) ∧
      s.powerOnLines pins ls = { s with lines := (s.powerOnLines pins ls).lines } := by
  induction ls generalizing s with
  | nil => exact ⟨fun l => rfl, rfl⟩
  | cons k rest ih =>
    obtain ⟨hk, hrest⟩ := List.nodup_cons.mp hnd
    have hset := State.setUpLine_powerOnLow (hlow k (.head _)) hnow pins[k]
    have hstay : ∀ l ∈ rest, (s.setLine k (Line.powerOn pins[k])).line l = Line.powerOnLow := by
      intro l hl
      rw [State.line_setLine_of_ne _ _ fun he : l = k => hk (he ▸ hl)]
      exact hlow l (.tail _ hl)
    obtain ⟨hlines, hframe⟩ := ih _ hrest hstay hnow
    rw [State.powerOnLines, hset]
    refine ⟨fun l => ?_, by rw [hframe]; rfl⟩
    rw [hlines, State.line_setLine]
    by_cases hl : l = k
    · subst hl; simp [hk]
    · simp [hl]

theorem mem_allLines (l : LineId) : l ∈ allLines := by revert l; decide

/-- What a power-on reset leaves, as far as lines, cameras, screens and Timebase go. -/
theorem State.powerOn_spec (s : State) (straps : Straps) (pins : Pins) :
    (∀ l, (s.powerOn straps pins).line l = Line.powerOn pins.entrance[l]) ∧
      (s.powerOn straps pins).cams = Vector.replicate 6 Camera.powerOn ∧
      (s.powerOn straps pins).screens = pins.sync.map Screen.powerOn ∧
      (s.powerOn straps pins).timebase = 0 := by
  unfold State.powerOn
  have hspec (u : State) (hlow : ∀ l, u.line l = Line.powerOnLow) (hnow : u.timebase = 0) :=
    u.powerOnLines_spec pins.entrance (by decide : allLines.Nodup) (fun l _ => hlow l) hnow
  refine ⟨fun l => ((hspec _ ?_ rfl).1 l).trans (if_pos (mem_allLines l)),
    congrArg State.cams (hspec _ ?_ rfl).2, congrArg State.screens (hspec _ ?_ rfl).2,
    congrArg State.timebase (hspec _ ?_ rfl).2⟩ <;>
  exact fun l => by simp [State.line]

theorem emptyLayout_zero : Claim.emptyLayout Layout.zero :=
  ⟨rfl, fun _ => by simp [Layout.zero, Pane.zero]⟩

theorem emptyLayouts_zero : Claim.emptyLayouts Layouts.zero :=
  ⟨emptyLayout_zero, fun _ => by simpa [Layouts.zero] using emptyLayout_zero⟩

theorem screenDefaults_default : Claim.screenDefaults ScrSettings.default :=
  ⟨rfl, rfl, rfl, by decide, rfl, by decide, rfl, rfl, rfl, rfl, rfl, rfl, rfl, rfl,
    emptyLayouts_zero⟩

theorem Camera.holders_powerOn {q : Slot} (h : q ∈ Camera.powerOn.slots) : q.holders = 0 := by
  rw [List.eq_of_mem_replicate h]; rfl

/-- Settles O3: only the lines need more than their values, one filter run for each pin that is high. -/
theorem powerOnResetLinesAndScreens : Obligations.PowerOnResetLinesAndScreens := by
  intro s straps pins
  obtain ⟨hline, hcams, hscreens, hnow⟩ := s.powerOn_spec straps pins
  have hcam (c : CamId) : (s.powerOn straps pins).cam c = Camera.powerOn := by
    simp [State.cam, hcams]
  have hscreen (x : ScrId) : (s.powerOn straps pins).screen x = Screen.powerOn pins.sync[x] := by
    simp [State.screen, hscreens]
  refine ⟨s.powerOn straps pins, rfl, hnow, fun l => ?_, fun x => ?_, fun c q hq => ?_⟩
  · rw [hline]
    exact ⟨rfl, rfl, rfl, rfl, rfl, LineSettings.activeLow_default, rfl, rfl⟩
  · rw [hscreen]
    exact ⟨screenDefaults_default, rfl, rfl, emptyLayouts_zero, rfl, rfl, rfl, rfl, rfl, rfl, rfl, rfl,
      rfl, rfl, rfl, rfl, rfl, rfl⟩
  · rw [hcam] at hq
    exact Camera.holders_powerOn hq

end Sys2Proof.Machine

/-!
The merge of a write beat into a record (R154, R178, 11.2): the bytes of a beat merged one at a time, what that makes of
a field of one byte, of a little-endian field and of a colour, and the layout of each record said once.
-/
namespace Sys2Proof.Machine

/-! ### The bytes of a beat merged one at a time (R154) -/

section
variable {α β : Type}

/-- The enabled bytes of a beat merged into `x` in their order, byte `i` with value `b` by `g · i b`. -/
def mergeBeat (g : α → Nat → Byte → α) (d : Beat) (en : Enables) (x : α) : α :=
  (List.range 64).foldl (fun x i => if en.getLsbD i then g x i (beatByte d i) else x) x

/-- A view of the record that follows each byte follows the beat. -/
theorem mergeBeat_hom {g : α → Nat → Byte → α} {k : β → Nat → Byte → β} (φ : α → β)
    (h : ∀ x i b, i < 64 → φ (g x i b) = k (φ x) i b) (d : Beat) (en : Enables) (x : α) :
    φ (mergeBeat g d en x) = mergeBeat k d en (φ x) := by
  unfold mergeBeat
  refine List.foldl_rel (r := fun x y => φ x = y) rfl fun i hi x y hxy => ?_
  subst hxy
  split
  · exact h x i _ (List.mem_range.mp hi)
  · rfl

theorem mergeBeat_of_unread {g : α → Nat → Byte → α} (h : ∀ x i b, i < 64 → g x i b = x) (d : Beat)
    (en : Enables) (x : α) : mergeBeat g d en x = x :=
  (mergeBeat_hom (k := fun x _ _ => x) id h d en x).trans (List.foldl_fixed' (by simp) _)

/-- A view of the record that no byte of the beat changes. -/
theorem mergeBeat_view_of_unread {g : α → Nat → Byte → α} {φ : α → β}
    (h : ∀ x i b, i < 64 → φ (g x i b) = φ x) (d : Beat) (en : Enables) (x : α) :
    φ (mergeBeat g d en x) = φ x :=
  (mergeBeat_hom (k := fun y _ _ => y) φ h d en x).trans (mergeBeat_of_unread (by simp) ..)

/-- What byte `i` makes of a value that byte `off` alone sets. -/
def putAt (f : Byte → β) (off : Nat) (v : β) (i : Nat) (b : Byte) : β := if i = off then f b else v

theorem mergeBeat_putAt (f : Byte → β) {off : Nat} (ho : off < 64) (d : Beat) (en : Enables) (v : β) :
    mergeBeat (putAt f off) d en v = if en.getLsbD off then f (beatByte d off) else v := by
  have key (is : List Nat) (v : β) :
      is.foldl (fun v i => if en.getLsbD i then putAt f off v i (beatByte d i) else v) v =
        if off ∈ is ∧ en.getLsbD off = true then f (beatByte d off) else v := by
    induction is generalizing v with
    | nil => simp
    | cons i rest ih =>
      rw [List.foldl_cons, ih]
      by_cases hi : i = off
      · subst hi
        by_cases hen : en.getLsbD i = true <;> simp [putAt, hen]
      · simp [putAt, hi, Ne.symm hi]
  rw [mergeBeat, key]
  simp [ho]

/-- What byte `i` makes of a little-endian field of `size` bytes from byte `off` on. -/
def putLe {n : Nat} (off size : Nat) (x : BitVec n) (i : Nat) (b : Byte) : BitVec n :=
  if off ≤ i ∧ i < off + size then putByte x (i - off) b else x

/-- What byte `i` makes of a colour from byte `off` on. -/
def putColour (off : Nat) (m : Macropixel) (i : Nat) (b : Byte) : Macropixel :=
  ⟨putAt id off m.y0 i b, putAt id (off + 1) m.u i b, putAt id (off + 2) m.y1 i b,
    putAt id (off + 3) m.v i b⟩

theorem mergeBeat_putAt_id {off : Nat} (ho : off < 64) (d : Beat) (en : Enables) (v : Byte) :
    mergeBeat (putAt id off) d en v = mergedByte d en off v := mergeBeat_putAt id ho d en v

theorem mergeBeat_putColour {off : Nat} (ho : off + 4 ≤ 64) (d : Beat) (en : Enables)
    (m : Macropixel) : mergeBeat (putColour off) d en m = Claim.colourMerged d en off m := by
  unfold Claim.colourMerged
  rw [← mergeBeat_putAt_id (by omega), ← mergeBeat_putAt_id (off := off + 1) (by omega),
    ← mergeBeat_putAt_id (off := off + 2) (by omega), ← mergeBeat_putAt_id (off := off + 3) (by omega),
    ← mergeBeat_hom (g := putColour off) Macropixel.y0 (fun _ _ _ _ => rfl),
    ← mergeBeat_hom (g := putColour off) Macropixel.u (fun _ _ _ _ => rfl),
    ← mergeBeat_hom (g := putColour off) Macropixel.y1 (fun _ _ _ _ => rfl),
    ← mergeBeat_hom (g := putColour off) Macropixel.v (fun _ _ _ _ => rfl)]

/-! ### Little-endian fields (R178) -/

theorem getLsbD_byteOf {n : Nat} (x : BitVec n) (k : Nat) {i : Nat} (hi : i < 8) :
    (byteOf x.toNat k).getLsbD i = x.getLsbD (8 * k + i) := by
  simp only [byteOf, BitVec.getLsbD_ofNat, Nat.testBit_shiftRight, BitVec.testBit_toNat, hi,
    decide_true, Bool.true_and]

/-- A replaced byte takes its value, and the other bytes keep theirs. -/
theorem getLsbD_putByte {n : Nat} (x : BitVec n) (j : Nat) (b : Byte) {k i : Nat} (hi : i < 8)
    (hk : 8 * k + i < n) :
    (putByte x j b).getLsbD (8 * k + i) = if j = k then b.getLsbD i else x.getLsbD (8 * k + i) := by
  have hones : (0xFF#8) = BitVec.allOnes 8 := rfl
  rw [putByte, hones]
  simp only [BitVec.getLsbD_or, BitVec.getLsbD_and, BitVec.getLsbD_not, BitVec.getLsbD_shiftLeft,
    BitVec.getLsbD_setWidth, BitVec.getLsbD_allOnes, hk, decide_true, Bool.true_and]
  rcases Nat.lt_trichotomy j k with hjk | rfl | hjk
  · have hb : b.getLsbD (8 * k + i - 8 * j) = false := BitVec.getLsbD_of_ge _ _ (by omega)
    simp [hb, show ¬8 * k + i - 8 * j < 8 by omega, show j ≠ k by omega]
  · simp [hi, show i < n by omega]
  · simp [show 8 * k + i < 8 * j by omega, show j ≠ k by omega]

theorem byteOf_putByte {n : Nat} (x : BitVec n) (j : Nat) (b : Byte) {k : Nat} (hk : 8 * k + 8 ≤ n) :
    byteOf (putByte x j b).toNat k = if j = k then b else byteOf x.toNat k := by
  refine BitVec.eq_of_getLsbD_eq fun i hi => ?_
  rw [getLsbD_byteOf _ _ hi, getLsbD_putByte _ _ _ hi (by omega)]
  split
  · rfl
  · rw [getLsbD_byteOf _ _ hi]
theorem eq_mergedLe {d : Beat} {en : Enables} {off size : Nat} {x y : Nat} (hy : y < 256 ^ size)
    (h : ∀ k < size, byteOf y k = mergedByte d en (off + k) (byteOf x k)) :
    y = mergedLe d en off size x := by
  induction size generalizing off x y with
  | zero => simpa [mergedLe] using hy
  | succ size ih =>
    have hlow : y % 256 = (mergedByte d en off (BitVec.ofNat 8 x)).toNat := by
      have h0 := congrArg BitVec.toNat (h 0 (by omega))
      simpa [byteOf] using h0
    have hhigh : y / 256 = mergedLe d en (off + 1) size (x / 256) := by
      refine ih (by rw [Nat.pow_succ] at hy; omega) fun k hk => ?_
      have hk := h (k + 1) (by omega)
      have hshift (z : Nat) : byteOf (z / 256) k = byteOf z (k + 1) := by
        rw [byteOf, byteOf, show 8 * (k + 1) = 8 + 8 * k by omega, Nat.shiftRight_add,
          Nat.shiftRight_eq_div_pow z 8]
      rw [hshift, hshift, hk, Nat.add_right_comm, Nat.add_assoc]
    rw [mergedLe, ← hlow, ← hhigh]
    omega

theorem mergeBeat_putLe {n off size : Nat} (hn : n = 8 * size) (ho : off + size ≤ 64) (d : Beat)
    (en : Enables) (x : BitVec n) :
    (mergeBeat (putLe off size) d en x).toNat = mergedLe d en off size x.toNat := by
  subst hn
  refine eq_mergedLe (by simpa [Nat.pow_mul] using (mergeBeat (putLe off size) d en x).isLt)
    fun k hk => ?_
  rw [← mergeBeat_putAt_id (by omega)]
  refine mergeBeat_hom (fun x => byteOf x.toNat k) (fun x i b _ => ?_) d en x
  unfold putLe putAt
  split
  · rw [byteOf_putByte _ _ _ (by omega)]
    exact if_congr (by omega) rfl rfl
  · rw [if_neg (by omega)]

/-! ### Records (11.2) -/

/-- The bytes of a beat merged by `g` do to the record what `G` says, field by field. -/
def MergesAs (g G : α → Nat → Byte → α) : Prop := ∀ x i b, i < 64 → g x i b = G x i b

section
variable {g G : α → Nat → Byte → α} {d : Beat} {en : Enables} {x : α} {off : Nat}

theorem MergesAs.byte (e : MergesAs g G) {φ : α → Byte}
    (h : ∀ x i b, φ (G x i b) = putAt id off (φ x) i b := by intros; rfl)
    (ho : off < 64 := by omega) : φ (mergeBeat g d en x) = mergedByte d en off (φ x) := by
  rw [← mergeBeat_putAt_id ho]
  exact mergeBeat_hom φ (fun x i b hi => by rw [e x i b hi, h]) d en x

theorem MergesAs.le (e : MergesAs g G) {n size : Nat} {φ : α → BitVec n}
    (h : ∀ x i b, φ (G x i b) = putLe off size (φ x) i b := by intros; rfl)
    (hn : n = 8 * size := by rfl) (ho : off + size ≤ 64 := by omega) :
    (φ (mergeBeat g d en x)).toNat = mergedLe d en off size (φ x).toNat := by
  rw [← mergeBeat_putLe hn ho]
  exact congrArg _ (mergeBeat_hom φ (fun x i b hi => by rw [e x i b hi, h]) d en x)

theorem MergesAs.colour (e : MergesAs g G) {φ : α → Macropixel}
    (h : ∀ x i b, φ (G x i b) = putColour off (φ x) i b := by intros; rfl)
    (ho : off + 4 ≤ 64 := by omega) :
    φ (mergeBeat g d en x) = Claim.colourMerged d en off (φ x) := by
  rw [← mergeBeat_putColour ho]
  exact mergeBeat_hom φ (fun x i b hi => by rw [e x i b hi, h]) d en x

theorem MergesAs.unread (e : MergesAs g G) {φ : α → β}
    (h : ∀ x i b, φ (G x i b) = φ x := by intros; rfl) : φ (mergeBeat g d en x) = φ x :=
  mergeBeat_view_of_unread (fun x i b hi => by rw [e x i b hi, h]) d en x
end
end

/-- The camera record (11.2). -/
theorem CamSettings.mergesAs : MergesAs CamSettings.mergeByte fun w i b =>
    { intakeBase := putLe 0x00 8 w.intakeBase i b
      slotBase := putLe 0x08 8 w.slotBase i b
      w := putLe 0x10 2 w.w i b
      h := putLe 0x12 2 w.h i b
      k := putAt id 0x14 w.k i b
      staleFactor := putAt id 0x15 w.staleFactor i b
      lostExponent := putAt id 0x16 w.lostExponent i b
      gapRelax := putAt id 0x17 w.gapRelax i b
      period := putLe 0x18 4 w.period i b
      gapTime := putLe 0x1C 2 w.gapTime i b
      earlyLines := putLe 0x1E 2 w.earlyLines i b
      evalInterval := putAt id 0x20 w.evalInterval i b
      darkFloor := putAt id 0x21 w.darkFloor i b
      brightCeiling := putAt id 0x22 w.brightCeiling i b
      learnCount := putAt id 0x23 w.learnCount i b
      learnShift := putAt id 0x24 w.learnShift i b
      watchShift := putAt id 0x25 w.watchShift i b
      dirtRatio := putAt id 0x26 w.dirtRatio i b
      blockFloor := putAt id 0x27 w.blockFloor i b
      minTexture := putLe 0x28 2 w.minTexture i b
      confirmCount := putAt id 0x2A w.confirmCount i b
      warnTiles := putAt id 0x2B w.warnTiles i b
      clearTiles := putAt id 0x2C w.clearTiles i b
      restartDelay := putAt id 0x2D w.restartDelay i b
      pattern := putAt id 0x2E w.pattern i b
      recovery := putAt id 0x2F w.recovery i b } := by
  intro w i b hi
  interval_cases i <;> rfl

theorem CamSettings.merged (d : Beat) (en : Enables) (w : CamSettings) :
    Claim.cameraMerged d en false w (mergeBeat CamSettings.mergeByte d en w) := by
  have e := CamSettings.mergesAs
  exact ⟨⟨e.le, e.le, e.le, e.le, e.byte⟩, e.byte, e.byte, e.byte, e.le, e.le, e.le, e.byte, e.byte,
    e.byte, e.byte, e.byte, e.byte, e.byte, e.byte, e.le, e.byte, e.byte, e.byte, e.byte, e.byte,
    e.byte⟩

/-- The first beat of the screen record (11.2). -/
theorem ScrSettings.mergesAs : MergesAs ScrSettings.mergeByte fun w i b =>
    { base := putLe 0x00 8 w.base i b
      ws := putLe 0x08 2 w.ws i b
      hs := putLe 0x0A 2 w.hs i b
      latchMode := putAt id 0x0C w.latchMode i b
      syncEdge := putAt id 0x0D w.syncEdge i b
      offsetTime := putLe 0x0E 2 w.offsetTime i b
      cyclePeriod := putLe 0x10 4 w.cyclePeriod i b
      border := putAt id 0x14 w.border i b
      background := putColour 0x18 w.background i b
      lost := putColour 0x1C w.lost i b
      stale := putColour 0x20 w.stale i b
      warn := putColour 0x24 w.warn i b
      staged := w.staged } := by
  intro w i b hi
  interval_cases i <;> rfl

theorem ScrSettings.merged (d : Beat) (en : Enables) (w : ScrSettings) :
    Claim.screenMerged d en false w (mergeBeat ScrSettings.mergeByte d en w) := by
  have e := ScrSettings.mergesAs
  exact ⟨⟨e.le, e.le, e.le, e.byte⟩, e.byte, e.le, e.le, e.byte, e.colour, e.colour, e.colour,
    e.colour, e.unread⟩

/-- The part settings record (11.2). -/
theorem PartSettings.mergesAs : MergesAs PartSettings.mergeByte fun w i b =>
    ⟨putLe 0 2 w.masks i b, putAt id 2 w.intEnable i b⟩ := by
  intro w i b hi
  interval_cases i <;> rfl

end Sys2Proof.Machine

/-!
Records that fill a part of a beat (11.2): pane entries, line records and the staged layouts.
-/
namespace Sys2Proof.Machine

/-- The bytes of a beat that fall in the record of 16 bytes that begins at byte `o`. -/
def within {α : Type} (g : α → Nat → Byte → α) (o : Nat) (x : α) (i : Nat) (b : Byte) : α :=
  if o ≤ i ∧ i < o + 16 then g x (i - o) b else x

theorem MergesAs.within {α : Type} {g G : α → Nat → Byte → α} {o : Nat}
    (hin : ∀ x j b, j < 16 → g x j b = G x (o + j) b)
    (hout : ∀ x i b, i < o ∨ o + 16 ≤ i → G x i b = x) : MergesAs (within g o) G := by
  intro x i b _
  unfold Machine.within
  split
  · next h => rw [hin x (i - o) b (by omega), Nat.add_sub_cancel' h.1]
  · next h => rw [hout x i b (by omega)]

/-- The pane entry (11.2). -/
theorem Pane.mergesAs (o : Nat) : MergesAs (within Pane.mergeByte o) fun p i b =>
    { camera := putAt id o p.camera i b
      hdec := putAt id (o + 1) p.hdec i b
      vdec := putAt id (o + 2) p.vdec i b
      flags := putAt id (o + 3) p.flags i b
      x := putLe (o + 4) 2 p.x i b
      y := putLe (o + 6) 2 p.y i b
      width := putLe (o + 8) 2 p.width i b
      height := putLe (o + 10) 2 p.height i b
      srcX := putLe (o + 12) 2 p.srcX i b
      srcY := putLe (o + 14) 2 p.srcY i b } := by
  refine MergesAs.within (fun p j b hj => ?_) (fun p i b hi => ?_)
  · interval_cases j <;> simp [Pane.mergeByte, putAt, putLe]
  · simp only [putAt, putLe]
    repeat rw [if_neg (by omega)]

theorem Pane.merged (d : Beat) (en : Enables) {o : Nat} (ho : o + 16 ≤ 64) (p : Pane) :
    Claim.paneMerged d en o p (mergeBeat (within Pane.mergeByte o) d en p) := by
  have e := Pane.mergesAs o
  exact ⟨e.byte, e.byte, e.byte, e.byte, e.le, e.le, e.le, e.le, e.le, e.le⟩

/-- The entrance line record (11.2). -/
theorem LineSettings.mergesAs (o : Nat) : MergesAs (within LineSettings.mergeByte o) fun w i b =>
    ⟨putAt id o w.polarity i b, putLe (o + 2) 2 w.filterTime i b⟩ := by
  refine MergesAs.within (fun w j b hj => ?_) (fun w i b hi => ?_)
  · interval_cases j <;> simp [LineSettings.mergeByte, putAt, putLe, Nat.add_assoc]
  · simp only [putAt, putLe]
    repeat rw [if_neg (by omega)]

/-! ### Staged layouts (11.2) -/

theorem Layout.count_mergeByte (l : Layout) (i : Nat) (b : Byte) :
    (l.mergeByte i b).count = putAt id 0 l.count i b := by
  unfold Layout.mergeByte putAt
  split_ifs <;> rfl

/-- Pane entry `n` stands in the 16 bytes from 10h × (n + 1) on. -/
theorem Layout.pane_mergeByte (l : Layout) (i : Nat) (b : Byte) (n : Fin 8) :
    (l.mergeByte i b).panes[n] = within Pane.mergeByte (0x10 * (n.val + 1)) l.panes[n] i b := by
  have hn := n.isLt
  by_cases h : 0x10 * (n.val + 1) ≤ i ∧ i < 0x10 * (n.val + 1) + 16
  · have hentry : n.val = (i - 0x10) / 0x10 := by omega
    have hbyte : i % 0x10 = i - 0x10 * (n.val + 1) := by omega
    rw [Layout.mergeByte, if_neg (by omega), if_pos (by omega), within, if_pos h, ← hbyte]
    simp [← hentry]
  · rw [within, if_neg h, Layout.mergeByte]
    split_ifs with h0 hr
    · rfl
    · have hentry : n.val ≠ (i - 0x10) / 0x10 := by omega
      simp [hentry]
    · rfl

/-- Layout `m` of a screen stands in the 100h bytes from 100h × m on. -/
theorem Layouts.layoutOf_mergeByte (ls : Layouts) (i : Nat) (b : Byte) (m : Fin 5) :
    Claim.layoutOf (ls.mergeByte i b) m =
      if m.val = i / 0x100 then (Claim.layoutOf ls m).mergeByte (i % 0x100) b
      else Claim.layoutOf ls m := by
  unfold Layouts.mergeByte
  split
  · next h =>
    rw [Nat.div_eq_of_lt h, Nat.mod_eq_of_lt h]
    fin_cases m <;> rfl
  · next h =>
    have h0 : 0 ≠ i / 0x100 := by omega
    fin_cases m
    · exact (if_neg h0).symm
    all_goals exact Vector.getElem_mapIdx ..

theorem Layouts.eq_of_layoutOf {ls ls' : Layouts}
    (h : ∀ m, Claim.layoutOf ls m = Claim.layoutOf ls' m) : ls = ls' := by
  obtain ⟨normal, entrance⟩ := ls
  obtain ⟨normal', entrance'⟩ := ls'
  have h0 : normal = normal' := h 0
  have he : entrance = entrance' := by
    refine Vector.ext fun i hi => ?_
    interval_cases i
    exacts [h 1, h 2, h 3, h 4]
  rw [h0, he]

end Sys2Proof.Machine

/-!
The merge of a CONFIG write beat (R75, R154, R155): where the bytes of each record lie in the config page, what the merge
makes of the state, record by record, and the entrance lines whose polarity it changes.
-/
namespace Sys2Proof.Machine

/-! ### The config page (11.2) -/

theorem settingAt_part {i : Nat} (h : i < 0x100) : settingAt i = .part i := if_pos h

theorem settingAt_camera (c : CamId) {i : Nat} (h : i < 0x100) :
    settingAt (0x100 + c.val * 0x100 + i) = .camera c i := by
  have hc := c.isLt
  rw [settingAt, if_neg (by omega), if_pos (by omega)]
  congr 1
  · exact Fin.ext (by dsimp only; omega)
  · omega

theorem settingAt_screen (x : ScrId) {i : Nat} (h : i < 0x800) :
    settingAt (0x1000 + x.val * 0x800 + i) = .screen x i := by
  have hx := x.isLt
  rw [settingAt, if_neg (by omega), if_neg (by omega), if_pos (by omega)]
  congr 1
  · exact Fin.ext (by dsimp only; omega)
  · omega

theorem settingAt_line {i : Nat} (h : i < 64) :
    settingAt (0x3000 + i) = .line ⟨i / 16, by omega⟩ (i % 16) := by
  rw [settingAt, if_neg (by omega), if_neg (by omega), if_neg (by omega), if_pos (by omega)]
  congr 1
  · exact Fin.ext (by dsimp only; omega)
  · omega

/-! ### Merges without a change of polarity -/

theorem State.polarityChanges_of_kept {s old : State}
    (h : ∀ l, (s.line l).cfg.activeLow = (old.line l).cfg.activeLow) (ls : List LineId) :
    s.polarityChanges old ls = s := by
  induction ls with
  | nil => rfl
  | cons l rest ih =>
    have hl : s.polarityChange l (old.line l).cfg = s := if_pos (h l)
    rw [State.polarityChanges, hl, ih]

theorem State.lockedCount_eq_zero {s : State} {o : Nat} (h : ∀ i < 64, s.locked (o + i) = false)
    (en : Enables) : s.lockedCount o en = 0 :=
  List.countP_eq_zero.mpr fun i hi => by simp [h i (List.mem_range.mp hi)]

/-- A beat merged into the state is the beat merged into the record `x` that the state `ψ x` holds. -/
theorem State.mergeBytes_embed {α : Type} {g : α → Nat → Byte → α} (ψ : α → State) {o : Nat}
    (h : ∀ x i b, i < 64 → (ψ x).mergeByte (o + i) b = ψ (g x i b)) (d : Beat) (en : Enables) (x : α) :
    (ψ x).mergeBytes o d en (List.range 64) = ψ (mergeBeat g d en x) := by
  have hfold (s : State) (is : List Nat) : s.mergeBytes o d en is =
      is.foldl (fun s i => if en.getLsbD i then s.mergeByte (o + i) (beatByte d i) else s) s := by
    induction is generalizing s with
    | nil => rfl
    | cons i rest ih => rw [State.mergeBytes, ih]; rfl
  rw [hfold]
  exact (mergeBeat_hom (k := fun s i b => s.mergeByte (o + i) b) ψ
    (fun x i b hi => (h x i b hi).symm) d en x).symm

/-- The merge of a beat of a record without locked bytes that is not that of the lines. -/
theorem State.mergeConfig_embed {α : Type} {g : α → Nat → Byte → α} (ψ : α → State) {o : Nat}
    (h : ∀ x i b, i < 64 → (ψ x).mergeByte (o + i) b = ψ (g x i b))
    (hlocked : ∀ x i, i < 64 → (ψ x).locked (o + i) = false)
    (hlines : ∀ x y, (ψ x).lines = (ψ y).lines) (d : Beat) (en : Enables) (x : α) :
    (ψ x).mergeConfig o d en = ψ (mergeBeat g d en x) := by
  rw [State.mergeConfig, State.mergeBytes_embed ψ h, State.polarityChanges_of_kept,
    State.lockedCount_eq_zero (hlocked x), State.reportIgnored, if_pos rfl]
  intro l
  rw [State.line, State.line, hlines]

theorem State.mergeByte_of_unlocked {s : State} {o : Nat} (h : s.locked o = false) (b : Byte) :
    s.mergeByte o b = s.putSetting o b := by
  rw [State.mergeByte, h]
  rfl

/-! ### A CONFIG write accepted (R150, R154) -/

theorem exec_configWrite {s : State} {a : Addr} {o : Nat} (h : Claim.configAt s a o) (p : PortTag)
    (d : Beat) (en : Enables) :
    exec (.configWrite p a d en) s =
      .next ((s.passWrite p (beatBase a) d en).mergeConfig o d en) := by
  obtain ⟨hquiet, hroom, hclass, haddr⟩ := h
  have htake : s.canTake (.beat p a (.write d en)) = true := by
    rw [State.canTake, hclass]
    exact hroom
  have hoffset : beatBase a - s.controlBase = o := by omega
  show Host.Outcome.next (s.present _) = _
  rw [State.present_of_canTake hquiet htake, State.acceptItem, State.acceptBeat, hclass,
    State.acceptClass, hoffset]

/-- What is merged leaves the beat handed on and its completion. -/
theorem written_of_passWrite {s t : State} {p : PortTag} {a : Addr} {d : Beat} {en : Enables}
    (harb : t.arb = (s.passWrite p (beatBase a) d en).arb) (hport : t.port = (s.writeDone p).port) :
    Claim.written s t p a d en := by
  have hqueue (q : Queue) :
      t.queue q = ((s.writeDone p).hand .pass (beatBase a) (.write d en)).queue q := by
    rw [State.queue, harb]; rfl
  refine ⟨⟨?_, ?_, fun q hq => ?_, ?_⟩, hport⟩
  · rw [hqueue, State.queue_hand, if_pos rfl]; rfl
  · rw [harb]; rfl
  · rw [hqueue, State.queue_hand, if_neg hq]; rfl
  · rw [harb]; rfl

/-! ### Cameras, screens and staged layouts (R154) -/

@[simp] theorem State.setCam_cam (s : State) (c : CamId) : s.setCam c (s.cam c) = s := by
  simp [State.setCam, State.cam]

@[simp] theorem State.setScreen_screen (s : State) (x : ScrId) :
    s.setScreen x (s.screen x) = s := by
  simp [State.setScreen, State.screen]

@[simp] theorem State.setScreen_setScreen (s : State) (x : ScrId) (y z : Screen) :
    (s.setScreen x y).setScreen x z = s.setScreen x z := by
  simp [State.setScreen]

/-- The state with camera `c`'s working settings replaced. -/
def State.withCamCfg (s : State) (c : CamId) (w : CamSettings) : State :=
  s.setCam c { s.cam c with cfg := w }

theorem State.locked_camera {s : State} {c : CamId} (h : (s.cam c).chan = .disarmed) {i : Nat}
    (hi : i < 0x100) : s.locked (0x100 + c.val * 0x100 + i) = false := by
  rw [State.locked, settingAt_camera c hi]
  simp [Camera.armed, h]

theorem State.mergeConfig_camera {s : State} {c : CamId} (h : (s.cam c).chan = .disarmed) (d : Beat)
    (en : Enables) :
    s.mergeConfig (0x100 + c.val * 0x100) d en =
      s.withCamCfg c (mergeBeat CamSettings.mergeByte d en (s.cam c).cfg) := by
  have hself : s.withCamCfg c (s.cam c).cfg = s := State.setCam_cam s c
  have hlocked (w : CamSettings) (i : Nat) (hi : i < 64) :
      (s.withCamCfg c w).locked (0x100 + c.val * 0x100 + i) = false :=
    State.locked_camera (by rw [State.withCamCfg, State.cam_setCam_self]; exact h) (by omega)
  conv_lhs => rw [← hself]
  refine State.mergeConfig_embed (s.withCamCfg c) (fun w i b hi => ?_) hlocked (fun _ _ => rfl) d en _
  rw [State.mergeByte_of_unlocked (hlocked w i hi), State.putSetting, settingAt_camera c (by omega)]
  simp only [State.withCamCfg, State.cam_setCam_self, State.setCam_setCam]

theorem cameraWritten (s : State) (p : PortTag) (c : CamId) (a : Addr) (d : Beat) (en : Enables) :
    Claim.CameraWritten s p c a d en := by
  intro hat hchan
  have hmerge := State.mergeConfig_camera (s := s.passWrite p (beatBase a) d en) hchan d en
  refine ⟨_, (exec_configWrite hat p d en).trans (congrArg _ hmerge), ?_,
    written_of_passWrite rfl rfl, ?_⟩
  · rw [State.withCamCfg, State.cam_setCam_self]
    exact CamSettings.merged d en _
  · rw [State.withCamCfg, State.cam_setCam_self]
    rfl

/-- The state with screen `x`'s working settings replaced. -/
def State.withScrCfg (s : State) (x : ScrId) (w : ScrSettings) : State :=
  s.setScreen x { s.screen x with cfg := w }

theorem State.putSetting_screen (s : State) (x : ScrId) {i : Nat} (hi : i < 0x800) (w : ScrSettings)
    (b : Byte) :
    (s.withScrCfg x w).putSetting (0x1000 + x.val * 0x800 + i) b =
      s.withScrCfg x (w.mergeByte i b) := by
  rw [State.putSetting, settingAt_screen x hi]
  simp only [State.withScrCfg, State.screen_setScreen_self, State.setScreen_setScreen]

theorem State.locked_screen {s : State} {x : ScrId} {i : Nat}
    (h : (s.screen x).state = .disabled ∨ 0x0C < i) (hi : i < 0x800) :
    s.locked (0x1000 + x.val * 0x800 + i) = false := by
  rw [State.locked, settingAt_screen x hi]
  rcases h with h | h
  · simp [Screen.enabled, h]
  · simp [scrLocked, h]

theorem State.mergeConfig_screen {s : State} {x : ScrId} (h : (s.screen x).state = .disabled)
    (d : Beat) (en : Enables) :
    s.mergeConfig (0x1000 + x.val * 0x800) d en =
      s.withScrCfg x (mergeBeat ScrSettings.mergeByte d en (s.screen x).cfg) := by
  have hself : s.withScrCfg x (s.screen x).cfg = s := State.setScreen_screen s x
  have hlocked (w : ScrSettings) (i : Nat) (hi : i < 64) :
      (s.withScrCfg x w).locked (0x1000 + x.val * 0x800 + i) = false :=
    State.locked_screen (.inl (by rw [State.withScrCfg, State.screen_setScreen_self]; exact h)) (by omega)
  conv_lhs => rw [← hself]
  refine State.mergeConfig_embed (s.withScrCfg x) (fun w i b hi => ?_) hlocked (fun _ _ => rfl) d en _
  rw [State.mergeByte_of_unlocked (hlocked w i hi), State.putSetting_screen s x (by omega)]

theorem screenWritten (s : State) (p : PortTag) (x : ScrId) (a : Addr) (d : Beat) (en : Enables) :
    Claim.ScreenWritten s p x a d en := by
  intro hat hstate
  have hmerge := State.mergeConfig_screen (s := s.passWrite p (beatBase a) d en) hstate d en
  refine ⟨_, (exec_configWrite hat p d en).trans (congrArg _ hmerge), ?_,
    written_of_passWrite rfl rfl, ?_⟩
  · rw [State.withScrCfg, State.screen_setScreen_self]
    exact ScrSettings.merged d en _
  · rw [State.withScrCfg, State.screen_setScreen_self]
    rfl

/-- The state with screen `x`'s staged layouts replaced. -/
def State.withStaged (s : State) (x : ScrId) (ls : Layouts) : State :=
  s.withScrCfg x { (s.screen x).cfg with staged := ls }

theorem ScrSettings.mergeByte_staged (w : ScrSettings) (i : Nat) (b : Byte) :
    w.mergeByte (0x100 + i) b = { w with staged := w.staged.mergeByte i b } := by
  unfold ScrSettings.mergeByte
  repeat rw [if_neg (by omega)]
  rw [Nat.add_sub_cancel_left]

/-- Byte `i` of beat `b` of layout `n` merged into the staged layouts. -/
def Layouts.mergeBeatByte (n : Fin 5) (b : Fin 3) (ls : Layouts) (i : Nat) (v : Byte) : Layouts :=
  ls.mergeByte (0x100 * n.val + b.val * 64 + i) v

theorem State.mergeConfig_layout (s : State) (x : ScrId) (n : Fin 5) (b : Fin 3) (d : Beat)
    (en : Enables) :
    s.mergeConfig (0x1000 + x.val * 0x800 + 0x100 * (n.val + 1) + b.val * 64) d en =
      s.withStaged x (mergeBeat (Layouts.mergeBeatByte n b) d en (s.screen x).cfg.staged) := by
  have hself : s.withStaged x (s.screen x).cfg.staged = s := State.setScreen_screen s x
  have hn := n.isLt
  have hb := b.isLt
  have hplace (i : Nat) : 0x1000 + x.val * 0x800 + 0x100 * (n.val + 1) + b.val * 64 + i =
      0x1000 + x.val * 0x800 + (0x100 + (0x100 * n.val + b.val * 64 + i)) := by omega
  have hlocked (ls : Layouts) (i : Nat) (hi : i < 64) : (s.withStaged x ls).locked
      (0x1000 + x.val * 0x800 + 0x100 * (n.val + 1) + b.val * 64 + i) = false := by
    rw [hplace]
    exact State.locked_screen (.inr (by omega)) (by omega)
  conv_lhs => rw [← hself]
  refine State.mergeConfig_embed (s.withStaged x) (fun ls i v hi => ?_) hlocked (fun _ _ => rfl) d en _
  rw [State.mergeByte_of_unlocked (hlocked ls i hi), hplace, State.withStaged,
    State.putSetting_screen s x (by omega), ScrSettings.mergeByte_staged]
  rfl

section
variable (n : Fin 5) (b : Fin 3) (d : Beat) (en : Enables) (ls : Layouts)

theorem Layouts.layoutOf_mergeBeatByte (i : Nat) (hi : i < 64) (v : Byte) (m : Fin 5) :
    Claim.layoutOf (Layouts.mergeBeatByte n b ls i v) m =
      if m = n then (Claim.layoutOf ls m).mergeByte (b.val * 64 + i) v else Claim.layoutOf ls m := by
  have hb := b.isLt
  rw [Layouts.mergeBeatByte, Layouts.layoutOf_mergeByte,
    show (0x100 * n.val + b.val * 64 + i) % 0x100 = b.val * 64 + i by omega]
  exact if_congr (by omega) rfl rfl

theorem Layouts.layoutOf_merged_of_ne {m : Fin 5} (h : m ≠ n) :
    Claim.layoutOf (mergeBeat (Layouts.mergeBeatByte n b) d en ls) m = Claim.layoutOf ls m :=
  mergeBeat_view_of_unread (φ := fun ls => Claim.layoutOf ls m)
    (fun ls i v hi => by rw [Layouts.layoutOf_mergeBeatByte n b ls i hi, if_neg h]) d en ls

theorem Layouts.layoutOf_merged_self :
    Claim.layoutOf (mergeBeat (Layouts.mergeBeatByte n b) d en ls) n =
      mergeBeat (fun l i v => l.mergeByte (b.val * 64 + i) v) d en (Claim.layoutOf ls n) :=
  mergeBeat_hom (fun ls => Claim.layoutOf ls n)
    (fun ls i v hi => by rw [Layouts.layoutOf_mergeBeatByte n b ls i hi, if_pos rfl]) d en ls
end

theorem Layout.count_merged (l : Layout) (b : Fin 3) (d : Beat) (en : Enables) :
    (mergeBeat (fun l i v => l.mergeByte (b.val * 64 + i) v) d en l).count =
      if b.val = 0 then mergedByte d en 0 l.count else l.count := by
  split
  · next h =>
    rw [← mergeBeat_putAt_id (by omega)]
    exact mergeBeat_hom Layout.count (fun l i v _ => by
      rw [Layout.count_mergeByte, h, Nat.zero_mul, Nat.zero_add]) d en l
  · next h =>
    exact mergeBeat_view_of_unread (φ := Layout.count) (fun l i v _ => by
      rw [Layout.count_mergeByte, putAt, if_neg (by omega)]) d en l

/-- Pane entry `n` stands in beat (n + 1) / 4 of its layout. -/
theorem Layout.pane_mergeByte_beat (l : Layout) (b : Fin 3) (n : Fin 8) {i : Nat} (hi : i < 64)
    (v : Byte) :
    (l.mergeByte (b.val * 64 + i) v).panes[n] =
      if (n.val + 1) / 4 = b.val then within Pane.mergeByte ((n.val + 1) % 4 * 16) l.panes[n] i v
      else l.panes[n] := by
  rw [Layout.pane_mergeByte]
  unfold within
  split
  · next h =>
    rw [if_pos (by omega), if_pos (by omega),
      show b.val * 64 + i - 0x10 * (n.val + 1) = i - (n.val + 1) % 4 * 16 by omega]
  · next h =>
    split
    · rw [if_neg (by omega)]
    · rfl

theorem Layout.pane_merged (l : Layout) (b : Fin 3) (d : Beat) (en : Enables) (n : Fin 8) :
    if (n.val + 1) / 4 = b.val then
      Claim.paneMerged d en ((n.val + 1) % 4 * 16) l.panes[n]
        (mergeBeat (fun l i v => l.mergeByte (b.val * 64 + i) v) d en l).panes[n]
    else (mergeBeat (fun l i v => l.mergeByte (b.val * 64 + i) v) d en l).panes[n] = l.panes[n] := by
  split
  · next h =>
    have hview : (mergeBeat (fun l i v => l.mergeByte (b.val * 64 + i) v) d en l).panes[n] =
        mergeBeat (within Pane.mergeByte ((n.val + 1) % 4 * 16)) d en l.panes[n] :=
      mergeBeat_hom (fun l : Layout => l.panes[n]) (fun l i v hi =>
        (Layout.pane_mergeByte_beat l b n hi v).trans (if_pos h)) d en l
    rw [hview]
    exact Pane.merged d en (by omega) _
  · next h =>
    exact mergeBeat_view_of_unread (φ := fun l : Layout => l.panes[n]) (fun l i v hi =>
      (Layout.pane_mergeByte_beat l b n hi v).trans (if_neg h)) d en l

theorem layoutWritten (s : State) (p : PortTag) (x : ScrId) (n : Fin 5) (b : Fin 3) (a : Addr)
    (d : Beat) (en : Enables) : Claim.LayoutWritten s p x n b a d en := by
  intro hat
  have hmerge := State.mergeConfig_layout (s.passWrite p (beatBase a) d en) x n b d en
  refine ⟨_, (exec_configWrite hat p d en).trans (congrArg _ hmerge), ?_⟩
  dsimp only [State.withStaged, State.withScrCfg]
  rw [State.screen_setScreen_self]
  dsimp only
  rw [Layouts.layoutOf_merged_self]
  exact ⟨Layout.count_merged .., Layout.pane_merged _ b d en,
    fun m hm => Layouts.layoutOf_merged_of_ne n b d en _ hm, written_of_passWrite rfl rfl, rfl⟩

/-! ### The part settings (R154, R171) -/

/-- The state with the part settings and the interrupt enable copy replaced. -/
def State.withPart (s : State) (w : PartSettings × Bool) : State :=
  { s with part := w.1, ring := { s.ring with intEnable := w.2 } }

/-- A byte of the part settings merged, the interrupt enable copy with it. -/
def PartSettings.mergeWithCopy (w : PartSettings × Bool) (i : Nat) (b : Byte) : PartSettings × Bool :=
  (w.1.mergeByte i b, putAt (byteBit · 0) 2 w.2 i b)

theorem State.mergeConfig_part (s : State) (d : Beat) (en : Enables) :
    s.mergeConfig 0 d en =
      s.withPart (mergeBeat PartSettings.mergeWithCopy d en (s.part, s.ring.intEnable)) := by
  have hlocked (w : PartSettings × Bool) (i : Nat) (hi : i < 64) :
      (s.withPart w).locked (0 + i) = false := by
    rw [State.locked, Nat.zero_add, settingAt_part (by omega)]
  refine State.mergeConfig_embed s.withPart (fun w i b hi => ?_) hlocked (fun _ _ => rfl) d en
    (s.part, s.ring.intEnable)
  rw [State.mergeByte_of_unlocked (hlocked w i hi), State.putSetting, Nat.zero_add,
    settingAt_part (by omega)]
  unfold State.withPart PartSettings.mergeWithCopy putAt
  dsimp only
  split <;> rfl

theorem partWritten (s : State) (p : PortTag) (a : Addr) (d : Beat) (en : Enables) :
    Claim.PartWritten s p a d en := by
  intro hat
  have hmerge := State.mergeConfig_part (s.passWrite p (beatBase a) d en) d en
  have hpart (w : PartSettings × Bool) : (mergeBeat PartSettings.mergeWithCopy d en w).1 =
      mergeBeat PartSettings.mergeByte d en w.1 := mergeBeat_hom Prod.fst (fun _ _ _ _ => rfl) d en w
  have hcopy (w : PartSettings × Bool) : (mergeBeat PartSettings.mergeWithCopy d en w).2 =
      if en.getLsbD 2 then byteBit (beatByte d 2) 0 else w.2 :=
    (mergeBeat_hom Prod.snd (fun _ _ _ _ => rfl) d en w).trans
      (mergeBeat_putAt (byteBit · 0) (off := 2) (by decide) ..)
  have e := PartSettings.mergesAs
  refine ⟨_, (exec_configWrite hat p d en).trans (congrArg _ hmerge), ?_, ?_, ?_,
    written_of_passWrite rfl rfl, rfl⟩
  · rw [State.withPart, hpart]; exact e.le
  · rw [State.withPart, hpart]; exact e.byte
  · rw [State.withPart, hcopy]; rfl

end Sys2Proof.Machine

/-!
The entrance lines and the beats without a setting in a CONFIG write (R75, R154), and the statement about CONFIG writes.
-/
namespace Sys2Proof.Machine

/-! ### Beats that hold no setting (11.2) -/

/-- A byte of the config page that no setting holds. -/
def SettingRef.unused : SettingRef → Prop
  | .part i => 0x40 ≤ i
  | .camera _ i => 0x40 ≤ i
  | .screen _ i => 0x40 ≤ i ∧ (i < 0x100 ∨ 0x600 ≤ i ∨ 0xC0 ≤ i % 0x100)
  | .line _ _ => False
  | .none => True

theorem settingAt_unused {o i : Nat} (halign : o % 64 = 0) (h : Claim.noSetting o) (hi : i < 64) :
    (settingAt (o + i)).unused := by
  unfold Claim.noSetting at h
  unfold settingAt
  split_ifs <;> simp only [SettingRef.unused] <;> omega

theorem CamSettings.mergeByte_unused (w : CamSettings) {i : Nat} (h : 0x40 ≤ i) (b : Byte) :
    w.mergeByte i b = w := by
  unfold CamSettings.mergeByte
  repeat rw [if_neg (by omega)]

theorem PartSettings.mergeByte_unused (w : PartSettings) {i : Nat} (h : 0x40 ≤ i) (b : Byte) :
    w.mergeByte i b = w := by
  unfold PartSettings.mergeByte
  repeat rw [if_neg (by omega)]

theorem Layouts.mergeByte_unused (ls : Layouts) {i : Nat} (h : 0x500 ≤ i ∨ 0xC0 ≤ i % 0x100)
    (b : Byte) : ls.mergeByte i b = ls := by
  refine Layouts.eq_of_layoutOf fun m => ?_
  have hm := m.isLt
  rw [Layouts.layoutOf_mergeByte]
  split
  · rw [Layout.mergeByte, if_neg (by omega), if_neg (by omega)]
  · rfl

theorem ScrSettings.mergeByte_unused (w : ScrSettings) {i : Nat} (hi : 0x40 ≤ i)
    (h : i < 0x100 ∨ 0x600 ≤ i ∨ 0xC0 ≤ i % 0x100) (b : Byte) : w.mergeByte i b = w := by
  by_cases hlow : i < 0x100
  · unfold ScrSettings.mergeByte
    repeat rw [if_neg (by omega)]
    rw [if_pos hlow]
  · obtain ⟨j, rfl⟩ : ∃ j, i = 0x100 + j := ⟨i - 0x100, by omega⟩
    rw [ScrSettings.mergeByte_staged, Layouts.mergeByte_unused _ (by omega)]

theorem State.mergeByte_unused {s : State} {o : Nat} (h : (settingAt o).unused) (b : Byte) :
    s.mergeByte o b = s := by
  rw [State.mergeByte, State.putSetting]
  split
  · rfl
  · cases href : settingAt o with
    | part i =>
      rw [href] at h
      have h : 0x40 ≤ i := h
      have h2 : i ≠ 2 := by omega
      simp only [PartSettings.mergeByte_unused _ h, if_neg h2]
    | camera c i =>
      rw [href] at h
      simp only [CamSettings.mergeByte_unused _ h]
      exact State.setCam_cam s c
    | screen x i =>
      rw [href] at h
      obtain ⟨hi, hbeat⟩ := h
      simp only [ScrSettings.mergeByte_unused _ hi hbeat]
      exact State.setScreen_screen s x
    | line l i => rw [href] at h; exact h.elim
    | none => rfl

theorem State.locked_unused {s : State} {o : Nat} (h : (settingAt o).unused) : s.locked o = false := by
  rw [State.locked]
  cases href : settingAt o with
  | camera c i =>
    rw [href] at h
    have hi : ¬i ≤ 0x14 := fun hle => absurd (Nat.le_trans h hle) (by decide)
    simp [camLocked, hi]
  | screen x i =>
    rw [href] at h
    have hi : ¬i ≤ 0x0C := fun hle => absurd (Nat.le_trans h.1 hle) (by decide)
    simp [scrLocked, hi]
  | _ => rfl

theorem State.mergeConfig_unused (s : State) {o : Nat} (halign : o % 64 = 0)
    (h : Claim.noSetting o) (d : Beat) (en : Enables) : s.mergeConfig o d en = s :=
  State.mergeConfig_embed (g := fun u _ _ => u) (fun _ : Unit => s)
    (fun _ _ b hi => State.mergeByte_unused (settingAt_unused halign h hi) b)
    (fun _ _ hi => State.locked_unused (settingAt_unused halign h hi)) (fun _ _ => rfl) d en ()

theorem nothingWritten (s : State) (p : PortTag) (a : Addr) (d : Beat) (en : Enables) (o : Nat) :
    Claim.NothingWritten s p a d en o := by
  intro hat halign h
  have hmerge := State.mergeConfig_unused (s.passWrite p (beatBase a) d en) halign h d en
  exact ⟨_, (exec_configWrite hat p d en).trans (congrArg _ hmerge), written_of_passWrite rfl rfl, rfl⟩

/-! ### Lines whose polarity changes (R75) -/

/-- A line with a raw level formed anew, acted on (R73). -/
def Line.refiltered (x : Line) (now : Time) : Line :=
  if x.raw = x.accepted then x.cancel
  else if x.cfg.filterTime = 0 then x.accept
  else x.run now

/-- A line after a merge into its record, `old` its settings before (R75). -/
def Line.repolarized (x : Line) (now : Time) (old : LineSettings) : Line :=
  if x.cfg.activeLow = old.activeLow then x
  else Line.refiltered { x with raw := x.cfg.rawOf x.pin } now

/-- The engine after what has become of line `l` from `x` to `x'`: it takes an edge where one was counted. -/
def Engine.afterLine (e : Engine) (l : LineId) (x x' : Line) : Engine :=
  if x'.edges != x.edges then e.afterEvent (.edge l x'.raw) else e

theorem State.filterLine_eq (s : State) (l : LineId) :
    s.filterLine l = { s with
      lines := (s.setLine l ((s.line l).refiltered s.timebase)).lines
      engine := s.engine.afterLine l (s.line l) ((s.line l).refiltered s.timebase) } := by
  unfold Line.refiltered Engine.afterLine
  by_cases hback : (s.line l).raw = (s.line l).accepted
  · rw [State.filterLine_of_back hback, if_pos hback]
    simp [Line.cancel, State.setLine]
  · by_cases htime : (s.line l).cfg.filterTime = 0
    · rw [State.filterLine_of_edge hback htime, if_neg hback, if_pos htime, State.formEdge_eq]
      simp [Line.accept]
    · rw [State.filterLine_of_run hback htime, if_neg hback, if_neg htime]
      simp [Line.run, State.setLine]

theorem State.polarityChange_eq (s : State) (l : LineId) (old : LineSettings) :
    s.polarityChange l old = { s with
      lines := (s.setLine l ((s.line l).repolarized s.timebase old)).lines
      engine := s.engine.afterLine l (s.line l) ((s.line l).repolarized s.timebase old) } := by
  unfold State.polarityChange Line.repolarized
  dsimp only
  split
  · simp [Engine.afterLine, State.setLine, State.line]
  · rw [State.filterLine_eq, State.line_setLine_self, State.setLine_setLine]
    rfl

section
variable (s : State) (k : LineId) (old : LineSettings)

theorem State.line_polarityChange_self :
    (s.polarityChange k old).line k = (s.line k).repolarized s.timebase old := by
  rw [State.polarityChange_eq]
  exact State.line_setLine_self ..

theorem State.line_polarityChange_of_ne {l : LineId} (h : l ≠ k) :
    (s.polarityChange k old).line l = s.line l := by
  rw [State.polarityChange_eq]
  exact State.line_setLine_of_ne s _ h

@[simp] theorem State.timebase_polarityChange : (s.polarityChange k old).timebase = s.timebase := by
  rw [State.polarityChange_eq]

theorem State.engine_polarityChange :
    (s.polarityChange k old).engine =
      s.engine.afterLine k (s.line k) ((s.polarityChange k old).line k) := by
  rw [State.line_polarityChange_self, State.polarityChange_eq]
end

/-- The edge of one line, where it has one, taken before those of the lines after it. -/
theorem edgesTaken_cons {e e' : Engine} {k : LineId} {x x' : Line} {later : List (LineId × Bool)}
    (h : Claim.edgesTaken (e.afterLine k x x') later e') :
    Claim.edgesTaken e (if x'.edges != x.edges then (k, x'.raw) :: later else later) e' := by
  unfold Engine.afterLine at h
  split
  · next hedge =>
    rw [if_pos hedge] at h
    exact ⟨_, Engine.takesEvent_afterEvent .., h⟩
  · next hnone =>
    rw [if_neg hnone] at h
    exact h

/-- The lines handled one after the other: each as if alone, and the engine takes their edges in turn. -/
theorem State.polarityChanges_spec (s old : State) {ls : List LineId} (hnd : ls.Nodup) :
    (∀ l, (s.polarityChanges old ls).line l =
        if l ∈ ls then (s.line l).repolarized s.timebase (old.line l).cfg else s.line l) ∧
      Claim.edgesTaken s.engine
        ((ls.filter fun l => ((s.polarityChanges old ls).line l).edges != (s.line l).edges).map
          fun l => (l, ((s.polarityChanges old ls).line l).raw)) (s.polarityChanges old ls).engine ∧
      s.polarityChanges old ls = { s with
        lines := (s.polarityChanges old ls).lines
        engine := (s.polarityChanges old ls).engine } := by
  induction ls generalizing s with
  | nil => exact ⟨fun l => rfl, rfl, rfl⟩
  | cons k rest ih =>
    obtain ⟨hk, hrest⟩ := List.nodup_cons.mp hnd
    obtain ⟨hlines, hedges, hframe⟩ := ih (s.polarityChange k (old.line k).cfg) hrest
    rw [State.polarityChanges]
    obtain ⟨t, ht⟩ : ∃ t, t = (s.polarityChange k (old.line k).cfg).polarityChanges old rest := ⟨_, rfl⟩
    rw [← ht] at hlines hedges hframe ⊢
    have htk := (hlines k).trans (if_neg hk)
    refine ⟨fun l => ?_, ?_, ?_⟩
    · by_cases hl : l = k
      · subst hl
        rw [htk, State.line_polarityChange_self, if_pos (.head _)]
      · rw [hlines, State.line_polarityChange_of_ne _ _ _ hl, State.timebase_polarityChange]
        simp [hl]
    · have hsame : (rest.filter fun l => (t.line l).edges != (s.line l).edges) = rest.filter fun l =>
          (t.line l).edges != ((s.polarityChange k (old.line k).cfg).line l).edges :=
        List.filter_congr fun l hl => by
          rw [State.line_polarityChange_of_ne _ _ _ fun he : l = k => hk (he ▸ hl)]
      rw [State.engine_polarityChange, ← htk] at hedges
      rw [List.filter_cons, hsame, apply_ite (List.map _), List.map_cons]
      exact edgesTaken_cons hedges
    · rw [hframe, State.polarityChange_eq]

/-! ### The beat of the line records (R75, R154) -/

/-- Byte `i` of the beat of the line records merged into the lines. -/
def mergeLineByte (ls : Vector Line 4) (i : Nat) (b : Byte) : Vector Line 4 :=
  ls.mapIdx fun n x => { x with cfg := within LineSettings.mergeByte (n * 16) x.cfg i b }

theorem State.mergeBytes_lines (s : State) (d : Beat) (en : Enables) :
    s.mergeBytes 0x3000 d en (List.range 64) =
      { s with lines := mergeBeat mergeLineByte d en s.lines } := by
  refine State.mergeBytes_embed (fun ls => { s with lines := ls }) (fun ls i b hi => ?_) d en s.lines
  have hunlocked : State.locked { s with lines := ls } (0x3000 + i) = false := by
    rw [State.locked, settingAt_line hi]
  rw [State.mergeByte_of_unlocked hunlocked, State.putSetting, settingAt_line hi]
  refine congrArg (fun ls => { s with lines := ls }) (Vector.ext fun n hn => ?_)
  simp only [mergeLineByte, Vector.getElem_mapIdx]
  by_cases hline : i / 16 = n
  · have hin : n * 16 ≤ i ∧ i < n * 16 + 16 := by omega
    have hbyte : i % 16 = i - n * 16 := by omega
    subst hline
    rw [within, if_pos hin, ← hbyte]
    exact Vector.getElem_set_self _
  · have hout : ¬(n * 16 ≤ i ∧ i < n * 16 + 16) := by omega
    rw [within, if_neg hout]
    exact Vector.getElem_set_ne _ _ hline

/-- The merge of a beat into the lines is that of each line's record into its settings. -/
theorem getElem_mergeBeat_lines (d : Beat) (en : Enables) (ls : Vector Line 4) (l : LineId) :
    (mergeBeat mergeLineByte d en ls)[l] =
      { ls[l] with cfg := mergeBeat (within LineSettings.mergeByte (l.val * 16)) d en ls[l].cfg } := by
  have hline := mergeBeat_hom (g := mergeLineByte)
    (k := fun x i b => { x with cfg := within LineSettings.mergeByte (l.val * 16) x.cfg i b })
    (fun ls => ls[l]) (fun ls i b _ => by simp [mergeLineByte]) d en ls
  exact hline.trans (mergeBeat_hom (fun w => { ls[l] with cfg := w }) (fun _ _ _ _ => rfl) d en
    ls[l].cfg).symm

theorem State.mergeConfig_lines (s : State) (d : Beat) (en : Enables) :
    s.mergeConfig 0x3000 d en =
      State.polarityChanges { s with lines := mergeBeat mergeLineByte d en s.lines } s allLines := by
  have hlocked (i : Nat) (hi : i < 64) : s.locked (0x3000 + i) = false := by
    rw [State.locked, settingAt_line hi]
  rw [State.mergeConfig, State.mergeBytes_lines, State.lockedCount_eq_zero hlocked,
    State.reportIgnored, if_pos rfl]

@[simp] theorem Line.cfg_repolarized (x : Line) (now : Time) (old : LineSettings) :
    (x.repolarized now old).cfg = x.cfg := by
  unfold Line.repolarized Line.refiltered
  split_ifs <;> rfl

theorem lineWritten_repolarized (now : Time) (d : Beat) (en : Enables) {o : Nat} (ho : o + 16 ≤ 64)
    (x : Line) :
    Claim.lineWritten now d en o x (Line.repolarized
      { x with cfg := mergeBeat (within LineSettings.mergeByte o) d en x.cfg } now x.cfg) := by
  have e := LineSettings.mergesAs o
  unfold Claim.lineWritten
  rw [Line.cfg_repolarized]
  refine ⟨e.byte, e.le, ?_⟩
  generalize mergeBeat (within LineSettings.mergeByte o) d en x.cfg = w
  have htime : w.filterTime.toNat = 0 ↔ w.filterTime = 0 := BitVec.toNat_inj (y := 0)
  simp only [htime]
  split
  · next hkept => exact if_pos hkept
  · next hchanged =>
    split
    · next hback => exact (if_neg hchanged).trans (if_pos hback)
    · next haway =>
      split
      · next hzero => exact (if_neg hchanged).trans ((if_neg haway).trans (if_pos hzero))
      · next hrun => exact (if_neg hchanged).trans ((if_neg haway).trans (if_neg hrun))

theorem linesWritten (s : State) (p : PortTag) (a : Addr) (d : Beat) (en : Enables) :
    Claim.LinesWritten s p a d en := by
  intro hat
  have hmerge := State.mergeConfig_lines (s.passWrite p (beatBase a) d en) d en
  obtain ⟨m, hm⟩ : ∃ m, m = { s.passWrite p (beatBase a) d en with
    lines := mergeBeat mergeLineByte d en s.lines } := ⟨_, rfl⟩
  obtain ⟨t, ht⟩ : ∃ t, t = m.polarityChanges (s.passWrite p (beatBase a) d en) allLines := ⟨_, rfl⟩
  obtain ⟨hlines, hedges, hframe⟩ :=
    m.polarityChanges_spec (s.passWrite p (beatBase a) d en) (by decide : allLines.Nodup)
  rw [← ht] at hlines hedges hframe
  have hline (l : LineId) : m.line l = { s.line l with
      cfg := mergeBeat (within LineSettings.mergeByte (l.val * 16)) d en (s.line l).cfg } := by
    rw [hm]
    exact getElem_mergeBeat_lines d en s.lines l
  have hkept : (fun l => (t.line l).edges != (m.line l).edges) =
      fun l => (t.line l).edges != (s.line l).edges := by
    funext l; rw [hline]
  have hexec : exec (.configWrite p a d en) s = .next t := by
    rw [exec_configWrite hat, hmerge, ht, hm]; rfl
  refine ⟨t, hexec, fun l => ?_, ?_,
    written_of_passWrite (by rw [hframe, hm]) (by rw [hframe, hm]; rfl), ?_⟩
  · rw [hlines, if_pos (mem_allLines l), hline]
    have hnow : m.timebase = s.timebase := by rw [hm]; rfl
    rw [hnow]
    exact lineWritten_repolarized s.timebase d en (by omega) (s.line l)
  · rw [hkept] at hedges
    have hengine : m.engine = s.engine := by rw [hm]; rfl
    rwa [hengine] at hedges
  · rw [hframe, hm]; rfl

/-- Settles O49, record by record: cameras, screens, staged layouts, part settings, lines, and beats without a
setting. -/
theorem configWriteMergesCamera : Obligations.ConfigWriteMergesCamera :=
  ⟨cameraWritten, screenWritten, layoutWritten, partWritten, linesWritten, nothingWritten⟩

end Sys2Proof.Machine

/-!
The hold tags of a set as one change of the slots (R18, R90, R95): what adding, removing and retiring the tags of
a list does to each slot, and the operations on a screen's sets as a change of the screen and of the slots.
-/
namespace Sys2Proof.Machine

/-! ### Slots changed in place -/

@[simp] theorem State.cam_slotsBy (s : State) (f : CamId → Nat → Slot → Slot) (c : CamId) :
    (s.slotsBy f).cam c = { s.cam c with slots := (s.cam c).slots.mapIdx (f c) } := by
  simp [State.slotsBy, State.cam]

theorem State.slotsBecome_slotsBy (s : State) (f : CamId → Nat → Slot → Slot) :
    SlotsBecome s (s.slotsBy f) f := fun c => State.cam_slotsBy s f c

@[simp] theorem State.screen_slotsBy (s : State) (f : CamId → Nat → Slot → Slot) (sc : ScrId) :
    (s.slotsBy f).screen sc = s.screen sc := rfl

theorem State.setScreen_slotsBy (s : State) (f : CamId → Nat → Slot → Slot) (sc : ScrId) (x : Screen) :
    (s.slotsBy f).setScreen sc x = (s.setScreen sc x).slotsBy f := rfl

theorem State.cams_ext {s t : State} (h : ∀ c, s.cam c = t.cam c) : s.cams = t.cams :=
  Vector.ext fun i hi => h ⟨i, hi⟩

theorem State.slotsBy_eq (s : State) (f : CamId → Nat → Slot → Slot) :
    s.slotsBy f = { s with cams := (s.slotsBy f).cams } := rfl

theorem mapIdx_kept {α : Type} (xs : List α) : (xs.mapIdx fun _ x => x) = xs := by
  apply List.ext_getElem?
  simp

theorem State.slotsBy_id (s : State) : (s.slotsBy fun _ _ q => q) = s := by
  have hc : (s.slotsBy fun _ _ q => q).cams = s.cams :=
    State.cams_ext fun c => by rw [State.cam_slotsBy, mapIdx_kept]
  rw [State.slotsBy_eq, hc]

theorem State.slotsBy_slotsBy (s : State) (f g : CamId → Nat → Slot → Slot) :
    (s.slotsBy f).slotsBy g = s.slotsBy fun c j q => g c j (f c j q) := by
  have hc : ((s.slotsBy f).slotsBy g).cams = (s.slotsBy fun c j q => g c j (f c j q)).cams :=
    State.cams_ext fun c => by simp [Function.comp_def]
  rw [State.slotsBy_eq, hc]
  rfl

/-- One slot changed. -/
theorem State.setCam_modSlot (s : State) (c : CamId) (j : Nat) (g : Slot → Slot) :
    s.setCam c ((s.cam c).modSlot j g) =
      s.slotsBy fun d i q => if d = c ∧ i = j then g q else q := by
  have hc : (s.setCam c ((s.cam c).modSlot j g)).cams =
      (s.slotsBy fun d i q => if d = c ∧ i = j then g q else q).cams :=
    State.cams_ext fun d => by
      rw [State.cam_setCam, State.cam_slotsBy]
      split
      · next hd =>
        subst hd
        have hs : (s.cam d).slots.modify j g =
            (s.cam d).slots.mapIdx fun i q => if d = d ∧ i = j then g q else q := by
          apply List.ext_getElem?
          intro i
          simp only [List.getElem?_modify, List.getElem?_mapIdx, true_and, eq_comm (a := j),
            Option.map_eq_map]
        rw [Camera.modSlot, hs]
      · next hd => simp [hd, mapIdx_kept]
  rw [State.slotsBy_eq, ← hc]
  rfl

/-! ### Tags of one slot -/

theorem Slot.withTags_withTags (q : Slot) (a b : BitVec 13) :
    (q.withTags a).withTags b = q.withTags (a ||| b) := by
  simp [Slot.withTags, BitVec.or_assoc]

theorem Slot.withTags_zero (q : Slot) : q.withTags 0#13 = q := by simp [Slot.withTags]

theorem and_compl_zero (h : BitVec 13) : h &&& ~~~0#13 = h := BitVec.and_allOnes

theorem and_compl_or (h a b : BitVec 13) : h &&& ~~~(a ||| b) = h &&& ~~~a &&& ~~~b := by
  rw [BitVec.not_or, BitVec.and_assoc]

theorem Slot.without_torn (s : BitVec 32) (n : Nat) (h a : BitVec 13) :
    (⟨.torn s n, h⟩ : Slot).without a =
      ⟨if a ≠ 0#13 ∧ h &&& ~~~a = 0#13 then .free else .torn s n, h &&& ~~~a⟩ := rfl

theorem Slot.without_zero (q : Slot) : q.without 0#13 = q := by
  obtain ⟨c, h⟩ := q
  cases c <;> simp only [Slot.without, BitVec.ofNat_eq_ofNat, and_compl_zero, ne_eq, not_true,
    false_and, if_false]

/-- A slot emptied in two steps is FREE exactly where it is in one: a step can only leave fewer holders. -/
theorem Slot.without_without (q : Slot) (a b : BitVec 13) :
    (q.without a).without b = q.without (a ||| b) := by
  obtain ⟨c, h⟩ := q
  cases c with
  | free => simp only [Slot.without, and_compl_or]
  | filling s n => simp only [Slot.without, and_compl_or]
  | ready s t => simp only [Slot.without, and_compl_or]
  | torn s n =>
    by_cases ha : a = 0#13
    · rw [ha, BitVec.zero_or]
      exact congrArg (·.without b) (Slot.without_zero _)
    · have hab : a ||| b ≠ 0#13 := fun he => ha (BitVec.or_eq_zero_iff.mp he).1
      rw [Slot.without_torn, Slot.without_torn, and_compl_or]
      by_cases h1 : h &&& ~~~a = 0#13
      · have h2 : h &&& ~~~a &&& ~~~b = 0#13 := by rw [h1, BitVec.zero_and]
        rw [if_pos ⟨ha, h1⟩, if_pos ⟨hab, h2⟩]
        rfl
      · have hb : h &&& ~~~a &&& ~~~b = 0#13 → b ≠ 0#13 := fun h2 hb => h1 (by
          rw [hb, and_compl_zero] at h2
          exact h2)
        rw [if_neg fun hc => h1 hc.2, Slot.without_torn]
        congr 1
        exact if_congr ⟨fun hc => ⟨hab, hc.2⟩, fun hc => ⟨hb hc.2, hc.2⟩⟩ rfl rfl

theorem Slot.retired_zero (q : Slot) : q.retired 0#13 = q := by
  simp only [Slot.retired, and_compl_zero, BitVec.and_zero,
    BitVec.zero_shiftLeft, BitVec.or_zero]

/-- Two sets of tags retire one after the other as they do together, where no retiring form of the first is a
tag of the second. -/
theorem Slot.retired_retired (q : Slot) {a b : BitVec 13} (h : a <<< 2 &&& b = 0) :
    (q.retired a).retired b = q.retired (a ||| b) := by
  have hh : ∀ i, 2 ≤ i → i < 13 → a.getLsbD (i - 2) = true → b.getLsbD i = false := fun i h2 hi ha => by
    have hi' := congrArg (·.getLsbD i) h
    simpa [hi, ha, show ¬i < 2 by omega] using hi'
  have hb (x : BitVec 13) : (x &&& ~~~a ||| (x &&& a) <<< 2) &&& ~~~b |||
      ((x &&& ~~~a ||| (x &&& a) <<< 2) &&& b) <<< 2 =
      x &&& ~~~(a ||| b) ||| (x &&& (a ||| b)) <<< 2 := by
    ext i hi
    have h1 := hh i
    have h2 := hh (i - 2)
    simp only [BitVec.getElem_or, BitVec.getElem_and, BitVec.getElem_not, BitVec.getElem_shiftLeft]
    grind
  exact congrArg (Slot.mk q.content) (hb q.holders)

theorem Slot.without_retired (q : Slot) {a : BitVec 13} (h : a <<< 2 = 0 → a = 0) :
    (q.retired a).without (a <<< 2) = q.without (a ||| a <<< 2) := by
  have hh : (q.holders &&& ~~~a ||| (q.holders &&& a) <<< 2) &&& ~~~(a <<< 2) =
      q.holders &&& ~~~(a ||| a <<< 2) := by
    ext i hi
    simp only [BitVec.getElem_or, BitVec.getElem_and, BitVec.getElem_not, BitVec.getElem_shiftLeft]
    grind
  have h0 : a <<< 2 ≠ 0 ↔ a ||| a <<< 2 ≠ 0 :=
    not_congr ⟨fun he => by rw [he, h he]; rfl, fun he => (BitVec.or_eq_zero_iff.mp he).2⟩
  obtain ⟨c, hd⟩ := q
  cases c with
  | torn s n =>
    rw [Slot.retired, Slot.without_torn, Slot.without_torn, hh]
    exact congrArg (Slot.mk · _) (if_congr (and_congr_left' h0) rfl rfl)
  | free => simp only [Slot.retired, Slot.without]; rw [hh]
  | filling s n => simp only [Slot.retired, Slot.without]; rw [hh]
  | ready s t => simp only [Slot.retired, Slot.without]; rw [hh]

theorem Slot.addTag_eq (q : Slot) (t : Nat) : q.addTag t = q.withTags (tagBit t) := rfl

theorem tagBit_ne_zero {t : Nat} (h : t < 13) : tagBit t ≠ 0 := by
  intro he
  have hi := congrArg (·.getLsbD t) he
  simp [tagBit, h] at hi

theorem Slot.removeTag_eq (q : Slot) {t : Nat} (h : t < 13) : q.removeTag t = q.without (tagBit t) := by
  obtain ⟨c, hd⟩ := q
  cases c with
  | torn s n =>
    simp only [Slot.removeTag, Slot.settle, Slot.without, tagBit_ne_zero h, ne_eq, not_false_iff, true_and]
    split <;> rfl
  | free | filling | ready => rfl

/-- A single bit is carried whole or not at all. -/
theorem and_tagBit (x : BitVec 13) (t : Nat) : x &&& tagBit t = 0 ∨ x &&& tagBit t = tagBit t := by
  cases hx : x.getLsbD t with
  | false =>
    left
    ext i hi
    simp only [tagBit, BitVec.getElem_and, BitVec.getElem_shiftLeft, BitVec.getElem_one]
    grind
  | true =>
    right
    ext i hi
    simp only [tagBit, BitVec.getElem_and]
    grind

/-- Exchanging a tag for the one two flags above it retires it (R90). -/
theorem Slot.swapTag_eq (q : Slot) (t : Nat) : q.swapTag t (t + 2) = q.retired (tagBit t) := by
  have hs : tagBit t <<< 2 = tagBit (t + 2) := (BitVec.shiftLeft_add _ t 2).symm
  by_cases h : q.holders &&& tagBit t = 0#13
  · have hk : q.holders &&& ~~~tagBit t = q.holders := by
      rw [← BitVec.or_zero (x := q.holders &&& ~~~tagBit t), ← h, ← BitVec.and_or_distrib_left,
        BitVec.or_comm, BitVec.or_not_self, BitVec.and_allOnes]
    rw [Slot.swapTag, if_pos (by exact h), Slot.retired, h, hk, BitVec.zero_shiftLeft, BitVec.or_zero]
  · rw [Slot.swapTag, if_neg (by exact h), Slot.retired, (and_tagBit q.holders t).resolve_left h, hs]

/-! ### The tags of a list of holds -/

/-- The tags that a list of holds names for slot `j` of camera `c`. -/
def tagsAt (c : CamId) (j : Nat) : List (CamId × Nat × Nat) → BitVec 13
  | [] => 0#13
  | h :: rest => (if c = h.1 ∧ j = h.2.1 then tagBit h.2.2 else 0#13) ||| tagsAt c j rest

theorem State.addTags_eq (s : State) (xs : List (CamId × Nat × Nat)) :
    s.addTags xs = s.slotsBy fun c j q => q.withTags (tagsAt c j xs) := by
  induction xs generalizing s with
  | nil => simp only [State.addTags, tagsAt, Slot.withTags_zero, State.slotsBy_id]
  | cons h rest ih =>
    rw [State.addTags, ih, State.addTag, State.setCam_modSlot, State.slotsBy_slotsBy]
    congr 1
    funext c j q
    simp only [tagsAt]
    split
    · rw [Slot.addTag_eq, Slot.withTags_withTags]
    · rw [BitVec.zero_or]

theorem State.removeTags_eq (s : State) {xs : List (CamId × Nat × Nat)}
    (hx : ∀ h ∈ xs, h.2.2 < 13) :
    s.removeTags xs = s.slotsBy fun c j q => q.without (tagsAt c j xs) := by
  induction xs generalizing s with
  | nil => simp only [State.removeTags, tagsAt, Slot.without_zero, State.slotsBy_id]
  | cons h rest ih =>
    rw [State.removeTags, ih _ fun x hm => hx x (.tail _ hm), State.removeTag, State.setCam_modSlot,
      State.slotsBy_slotsBy]
    congr 1
    funext c j q
    simp only [tagsAt]
    split
    · rw [Slot.removeTag_eq _ (hx h (.head _)), Slot.without_without]
    · rw [BitVec.zero_or]

theorem and_tagsAt {b : BitVec 13} {xs : List (CamId × Nat × Nat)}
    (hx : ∀ h ∈ xs, b &&& tagBit h.2.2 = 0#13)
    (c : CamId) (j : Nat) : b &&& tagsAt c j xs = 0#13 := by
  induction xs with
  | nil => exact BitVec.and_zero
  | cons h rest ih =>
    rw [tagsAt, BitVec.and_or_distrib_left, ih fun k hk => hx k (.tail _ hk), BitVec.or_zero]
    split
    · exact hx h (.head _)
    · exact BitVec.and_zero

/-- Tags that none of the others retires to become retiring ones together. -/
theorem State.retireTags_eq (s : State) {xs : List (CamId × Nat × Nat)}
    (hx : ∀ h ∈ xs, ∀ k ∈ xs, tagBit h.2.2 <<< 2 &&& tagBit k.2.2 = 0) :
    s.retireTags xs = s.slotsBy fun c j q => q.retired (tagsAt c j xs) := by
  induction xs generalizing s with
  | nil => simp only [State.retireTags, tagsAt, Slot.retired_zero, State.slotsBy_id]
  | cons h rest ih =>
    rw [State.retireTags, ih _ fun x hm k hk => hx x (.tail _ hm) k (.tail _ hk), State.swapTag,
      State.setCam_modSlot, State.slotsBy_slotsBy]
    congr 1
    funext c j q
    simp only [tagsAt]
    split
    · rw [Slot.swapTag_eq, Slot.retired_retired]
      exact and_tagsAt (fun k hk => hx h (.head _) k (.tail _ hk)) c j
    · rw [BitVec.zero_or]

/-! ### The tags of a hold set (R83, R90) -/

theorem tagsAt_append (c : CamId) (j : Nat) (xs ys : List (CamId × Nat × Nat)) :
    tagsAt c j (xs ++ ys) = tagsAt c j xs ||| tagsAt c j ys := by
  induction xs with
  | nil => simp [tagsAt]
  | cons h rest ih => rw [List.cons_append, tagsAt, tagsAt, ih, BitVec.or_assoc]

theorem tagsAt_of_ne {c : CamId} {xs : List (CamId × Nat × Nat)} (h : ∀ x ∈ xs, x.1 ≠ c) (j : Nat) :
    tagsAt c j xs = 0#13 := by
  induction xs with
  | nil => rfl
  | cons x rest ih =>
    rw [tagsAt, ih fun y hy => h y (.tail _ hy), if_neg fun hc => h x (.head _) hc.1.symm,
      BitVec.or_zero]

/-- Of a list made camera by camera, the tags at a camera are those of its own part. -/
theorem tagsAt_flatMap {g : CamId → List (CamId × Nat × Nat)} (hg : ∀ d, ∀ x ∈ g d, x.1 = d)
    (c : CamId) (j : Nat) (cs : List CamId) :
    tagsAt c j (cs.flatMap g) = if c ∈ cs then tagsAt c j (g c) else 0#13 := by
  induction cs with
  | nil => rfl
  | cons d rest ih =>
    rw [List.flatMap_cons, tagsAt_append, ih]
    by_cases hd : c = d
    · subst hd
      by_cases hr : c ∈ rest <;> simp [hr]
    · rw [tagsAt_of_ne fun x hx he => hd (he.symm.trans (hg d x hx))]
      simp [hd]

theorem mem_allCams (c : CamId) : c ∈ allCams := by revert c; decide

theorem tagsAt_option (c : CamId) (j : Nat) (o : Option Nat) (t : Nat) :
    tagsAt c j ((o.toList.map fun k => (k, t)).map fun h => (c, h.1, h.2)) =
      if o = some j then tagBit t else 0#13 := by
  cases o with
  | none => simp [tagsAt]
  | some k => simp [tagsAt, eq_comm]

theorem tagsAt_holds (hs : HoldSet) (sc : ScrId) (r : SetRole) (c : CamId) (j : Nat) :
    tagsAt c j (hs.holds sc r) = setTags sc r (some hs) c j := by
  rw [HoldSet.holds, tagsAt_flatMap, if_pos (mem_allCams c)]
  · simp only [setTags, Option.bind_some]
    cases hc : hs.cams[c] with
    | none => rfl
    | some e =>
      simp only [CamEntry.holds, List.map_append, tagsAt_append, tagsAt_option, tagBit, screenTag,
        Nat.mul_comm sc.val 4, if_true, Bool.false_eq_true, if_false, Nat.add_zero]
      rfl
  · intro d x hx
    split at hx
    · obtain ⟨y, -, rfl⟩ := List.mem_map.mp hx
      rfl
    · simp at hx

/-- A tag of a hold set is a flag of its screen and role (R18, 11.5). -/
theorem HoldSet.tag_of_mem {hs : HoldSet} {sc : ScrId} {r : SetRole} {x : CamId × Nat × Nat}
    (h : x ∈ hs.holds sc r) : ∃ f, x.2.2 = screenTag sc r f := by
  obtain ⟨c, -, hx⟩ := List.mem_flatMap.mp h
  split at hx
  · obtain ⟨y, hy, rfl⟩ := List.mem_map.mp hx
    rcases List.mem_append.mp hy with hp | hf
    · obtain ⟨k, -, rfl⟩ := List.mem_map.mp hp
      exact ⟨false, rfl⟩
    · obtain ⟨k, -, rfl⟩ := List.mem_map.mp hf
      exact ⟨true, rfl⟩
  · simp at hx

theorem screenTag_lt (sc : ScrId) (r : SetRole) (f : Bool) : screenTag sc r f < 13 := by
  cases r <;> cases f <;> revert sc <;> decide

theorem retired_screenTag_and (sc : ScrId) (f g : Bool) :
    tagBit (screenTag sc .active f) <<< 2 &&& tagBit (screenTag sc .active g) = 0#13 := by
  cases f <;> cases g <;> revert sc <;> decide

/-- The retiring form of a set's tags stands two flags above the active one. -/
theorem setTags_retiring (sc : ScrId) (hs : Option HoldSet) (c : CamId) (j : Nat) :
    setTags sc .retiring hs c j = setTags sc .active hs c j <<< 2 := by
  simp only [setTags, reduceCtorEq, if_true, if_false]
  split
  · rfl
  · (repeat' split) <;> revert sc <;> decide

theorem setTags_active_of_shift {sc : ScrId} {hs : Option HoldSet} {c : CamId} {j : Nat}
    (h : setTags sc .active hs c j <<< 2 = 0) : setTags sc .active hs c j = 0 := by
  revert h
  simp only [setTags, reduceCtorEq, if_false]
  split
  · exact fun _ => rfl
  · (repeat' split) <;> revert sc <;> decide

/-! ### Sets released and retired (R90, R95, R99) -/

theorem State.removeTags_holds (s : State) (hs : HoldSet) (sc : ScrId) (r : SetRole) :
    s.removeTags (hs.holds sc r) = s.slotsBy fun c j q => q.without (setTags sc r (some hs) c j) := by
  rw [State.removeTags_eq s fun x hx => ?_]
  · simp only [tagsAt_holds]
  · obtain ⟨f, hf⟩ := HoldSet.tag_of_mem hx
    rw [hf]
    exact screenTag_lt sc r f

theorem State.retireTags_holds (s : State) (hs : HoldSet) (sc : ScrId) :
    s.retireTags (hs.holds sc .active) =
      s.slotsBy fun c j q => q.retired (setTags sc .active (some hs) c j) := by
  rw [State.retireTags_eq s fun x hx y hy => ?_]
  · simp only [tagsAt_holds]
  · obtain ⟨f, hf⟩ := HoldSet.tag_of_mem hx
    obtain ⟨g, hg⟩ := HoldSet.tag_of_mem hy
    rw [hf, hg]
    exact retired_screenTag_and sc f g

theorem State.addTags_holds (s : State) (hs : HoldSet) (sc : ScrId) (r : SetRole) :
    s.addTags (hs.holds sc r) =
      s.slotsBy fun c j q => q.withTags (setTags sc r (some hs) c j) := by
  rw [State.addTags_eq]
  simp only [tagsAt_holds]

@[simp] theorem Screen.pendingCommit_withSet (x : Screen) (r : SetRole) (hs : Option HoldSet) :
    (x.withSet r hs).pendingCommit = x.pendingCommit := by cases r <;> rfl

/-- A released set is empty and its tags are gone (R95, R99). -/
theorem State.dropSet_of_some {s : State} {sc : ScrId} {r : SetRole} {hs : HoldSet}
    (h : (s.screen sc).setOf r = some hs) :
    s.dropSet sc r = (s.setScreen sc ((s.screen sc).withSet r none)).slotsBy fun c j q =>
      q.without (setTags sc r (some hs) c j) := by
  rw [State.dropSet, h]
  dsimp only
  rw [State.removeTags_holds]
  rfl

theorem State.dropSet_of_none {s : State} {sc : ScrId} {r : SetRole}
    (h : (s.screen sc).setOf r = none) : s.dropSet sc r = s := by
  rw [State.dropSet, h]

/-- What a retiring set becomes with the latch that retires it: it stays while a read is in flight under it, and is
else released at once (R90, step 3; R95). -/
theorem State.retire_of_some {s : State} {sc : ScrId} {hs : HoldSet}
    (h : (s.screen sc).active = some hs) :
    s.retire sc =
      (s.setScreen sc
        { s.screen sc with
          active := none
          retiring := if (s.screen sc).keepsOld then some hs else none
          table := (s.screen sc).table.map Entry.retired }).slotsBy fun c j q =>
        if (s.screen sc).keepsOld then q.retired (setTags sc .active (some hs) c j)
        else q.without (setTags sc .active (some hs) c j ||| setTags sc .retiring (some hs) c j) := by
  have hk : (s.screen sc).keepsOld = (s.screen sc).inFlight .active := by
    simp [Screen.keepsOld, Screen.inFlight, h]
  rw [State.retire, h, hk]
  dsimp only
  rw [State.retireTags_holds]
  split
  · rfl
  · have hdrop := State.dropSet_of_some (r := .retiring) (hs := hs)
      (s := (s.slotsBy fun c j q => q.retired (setTags sc .active (some hs) c j)).setScreen sc
        { s.screen sc with
          active := none
          retiring := some hs
          table := (s.screen sc).table.map Entry.retired })
      (by rw [State.screen_setScreen_self]; rfl)
    rw [State.screen_setScreen_self, State.setScreen_setScreen] at hdrop
    refine hdrop.trans ((State.slotsBy_slotsBy (s.setScreen sc _) _ _).trans ?_)
    congr 1
    funext c j q
    rw [setTags_retiring]
    exact Slot.without_retired q setTags_active_of_shift

theorem State.retire_of_none {s : State} {sc : ScrId} (h : (s.screen sc).active = none) :
    s.retire sc = s := by
  rw [State.retire, h]

/-- The new set comes with its tags (R90, steps 4 and 5; R120). -/
theorem State.install_eq (s : State) (sc : ScrId) (choice : LayoutChoice) :
    s.install sc choice =
      (s.setScreen sc
        { s.screen sc with
          active := some (s.newSet (s.screen sc) choice)
          choice := some choice
          latchCount := (s.screen sc).latchCount + 1
          state := .running
          misuse := false }).slotsBy fun c j q =>
        q.withTags (setTags sc .active (some (s.newSet (s.screen sc) choice)) c j) := by
  rw [State.install]
  dsimp only
  rw [State.addTags_holds]
  rfl

end Sys2Proof.Machine

/-!
A screen's word is open exactly while its COMMIT is pending (R85, R164, R165): no operation but a COMMIT, a latch,
a DISABLE and a reset opens or closes a word of a screen or touches a pending COMMIT.
-/
namespace Sys2Proof.Machine

/-! ### Open words and pending COMMITs -/

/-- What an open word and a pending COMMIT are told by: the open tags of the words of screens, cameras and engine,
and the tags of the pending COMMITs (R85, R165). The part's word, which a RESTART that waits keeps open, is left
out. -/
structure OpenWords where
  screens : ScrId → Option Byte
  commits : ScrId → Option Byte
  cams : CamId → Option Byte
  engine : Option Byte

/-- The open words and the pending COMMITs of a state. -/
def State.opened (s : State) : OpenWords where
  screens sc := (s.mailbox (.screen sc)).openTag
  commits sc := (s.screen sc).pendingCommit
  cams c := (s.mailbox (.camera c)).openTag
  engine := (s.mailbox .engine).openTag

@[simp] theorem State.opened_setScreen (s : State) (sc : ScrId) (x : Screen)
    (h : x.pendingCommit = (s.screen sc).pendingCommit) : (s.setScreen sc x).opened = s.opened := by
  have hx : ∀ i, ((s.setScreen sc x).screen i).pendingCommit = (s.screen i).pendingCommit := fun i => by
    rw [State.screen_setScreen]
    split
    · next hi => rw [hi, h]
    · rfl
  simp [State.opened, hx]

@[simp] theorem State.opened_setMailbox (s : State) (o : Owner) (m : Mailbox)
    (h : o = .part ∨ m.openTag = (s.mailbox o).openTag) : (s.setMailbox o m).opened = s.opened := by
  have hm : ∀ q, q ≠ .part → ((s.setMailbox o m).mailbox q).openTag = (s.mailbox q).openTag := fun q hq => by
    by_cases he : q = o
    · subst he
      rw [State.mailbox_setMailbox_self]
      exact h.resolve_left hq
    · rw [State.mailbox_setMailbox_of_ne s m he]
  simp [State.opened, hm]

@[simp] theorem State.opened_answer (s : State) (o : Owner) (r : Result) :
    (s.answer o r).opened = s.opened := State.opened_setMailbox _ _ _ (.inr rfl)

@[simp] theorem State.opened_answerOpen_part (s : State) : (s.answerOpen .part).opened = s.opened :=
  State.opened_setMailbox _ _ _ (.inl rfl)

@[simp] theorem State.opened_answerEnd_part (s : State) (r : Result) :
    (s.answerEnd .part r).opened = s.opened := State.opened_setMailbox _ _ _ (.inl rfl)

/-! ### The state's updates, reports and the upstream port -/

@[simp] theorem State.opened_setCam (s : State) (c : CamId) (x : Camera) :
    (s.setCam c x).opened = s.opened := rfl

@[simp] theorem State.opened_setLine (s : State) (l : LineId) (x : Line) :
    (s.setLine l x).opened = s.opened := rfl

@[simp] theorem State.opened_setEngine (s : State) (e : Engine) :
    (s.setEngine e).opened = s.opened := rfl

@[simp] theorem State.opened_slotsBy (s : State) (f : CamId → Nat → Slot → Slot) :
    (s.slotsBy f).opened = s.opened := rfl

@[simp] theorem State.opened_hand (s : State) (q : Queue) (a : Nat) (op : MemOp) :
    (s.hand q a op).opened = s.opened := rfl

@[simp] theorem State.opened_writeDone (s : State) (t : PortTag) :
    (s.writeDone t).opened = s.opened := rfl

@[simp] theorem State.opened_answerRead (s : State) (t : PortTag) (d : Beat) :
    (s.answerRead t d).opened = s.opened := rfl

@[simp] theorem State.opened_expectRead (s : State) (t : PortTag) :
    (s.expectRead t).opened = s.opened := rfl

@[simp] theorem State.opened_formReadWith (s : State) (r : RespRef) (d : Beat) (f : SideFlags) :
    (s.formReadWith r d f).opened = s.opened := rfl

@[simp] theorem State.opened_formRead (s : State) (r : RespRef) (d : Beat) :
    (s.formRead r d).opened = s.opened := rfl

@[simp] theorem State.opened_writeConsumer (s : State) (v : Byte) :
    (s.writeConsumer v).opened = s.opened := rfl

@[simp] theorem State.opened_popRead (s : State) : s.popRead.opened = s.opened := rfl

@[simp] theorem State.opened_report (s : State) (k : Kind) (src : Nat) (d0 d1 : BitVec 32) :
    (s.report k src d0 d1).opened = s.opened := by
  rw [State.report_eq]
  rfl

/-! ### The Pane Composer and the latch's sets (R90, R95, R96, R103, R115) -/

@[simp] theorem State.opened_handFetches (s : State) (xs : List Fetch) :
    (s.handFetches xs).opened = s.opened := by
  induction xs generalizing s with
  | nil => rfl
  | cons x rest ih =>
    rw [State.handFetches]
    split
    · rw [ih]; rfl
    · rfl

@[simp] theorem State.opened_composeEntry (s : State) (sc : ScrId) (hs : HoldSet) (e : Entry) :
    (s.composeEntry sc hs e).opened = s.opened := by
  unfold State.composeEntry
  dsimp only
  split <;> simp [Screen.removeEntry, Screen.modEntry]

@[simp] theorem State.opened_composeEntries (s : State) (sc : ScrId) (hs : HoldSet)
    (xs : List Entry) : (s.composeEntries sc hs xs).opened = s.opened := by
  induction xs generalizing s with
  | nil => rfl
  | cons x rest ih => rw [State.composeEntries]; simp [ih]

@[simp] theorem State.opened_composeWaiting (s : State) (sc : ScrId) :
    (s.composeWaiting sc).opened = s.opened := by
  unfold State.composeWaiting
  dsimp only
  split <;> simp

@[simp] theorem State.opened_addEntry (s : State) (sc : ScrId) (p : PortTag) (o : Nat) :
    (s.addEntry sc p o).opened = s.opened :=
  State.opened_setScreen s sc { s.screen sc with table := (s.screen sc).table ++ _ } rfl

@[simp] theorem State.opened_dropSet (s : State) (sc : ScrId) (r : SetRole) :
    (s.dropSet sc r).opened = s.opened := by
  cases h : (s.screen sc).setOf r with
  | none => rw [State.dropSet_of_none h]
  | some hs => simp [State.dropSet_of_some h]

@[simp] theorem State.opened_retire (s : State) (sc : ScrId) : (s.retire sc).opened = s.opened := by
  cases h : (s.screen sc).active with
  | none => rw [State.retire_of_none h]
  | some hs => simp [State.retire_of_some h]

@[simp] theorem State.opened_install (s : State) (sc : ScrId) (choice : LayoutChoice) :
    (s.install sc choice).opened = s.opened := by
  simp [State.install_eq]

@[simp] theorem State.opened_reportLayout (s : State) (sc : ScrId) (choice : LayoutChoice) :
    (s.reportLayout sc choice).opened = s.opened := by
  simp [State.reportLayout, apply_ite State.opened]

@[simp] theorem State.opened_releaseFallback (s : State) (c : CamId) (p : Nat) (sc : ScrId)
    (r : SetRole) : (s.releaseFallback c p sc r).opened = s.opened := by
  unfold State.releaseFallback
  dsimp only
  split
  · rfl
  · split
    · rfl
    · next hs _ _ f _ =>
      exact State.opened_setScreen (s.removeTag c f (screenTag sc r true)) sc _
        (Screen.pendingCommit_withSet _ r (some (hs.noFallback c)))

@[simp] theorem State.opened_releaseFallbacks (s : State) (c : CamId) (p : Nat)
    (xs : List (ScrId × SetRole)) : (s.releaseFallbacks c p xs).opened = s.opened := by
  induction xs generalizing s with
  | nil => rfl
  | cons x rest ih => rw [State.releaseFallbacks]; simp [ih]

@[simp] theorem State.opened_serveRead (s : State) (sc : ScrId) (p : PortTag) (o : Nat) :
    (s.serveRead sc p o).opened = s.opened := by
  unfold State.serveRead
  dsimp only
  (repeat' split) <;> simp

@[simp] theorem State.opened_screenWrite (s : State) (sc : ScrId) (o : Nat) :
    (s.screenWrite sc o).opened = s.opened := by simp [State.screenWrite, apply_ite State.opened]

@[simp] theorem State.opened_takeEnable (s : State) (sc : ScrId) :
    (s.takeEnable sc).opened = s.opened := by
  unfold State.takeEnable
  dsimp only
  split <;> simp [Screen.enable]

@[simp] theorem State.opened_dropIdleSet (s : State) (sc : ScrId) (r : SetRole) :
    (s.dropIdleSet sc r).opened = s.opened := by simp [State.dropIdleSet, apply_ite State.opened]

@[simp] theorem State.opened_restartEntries (s : State) (before : SideFlags) (x : Screen)
    (xs : List Entry) : (s.restartEntries before x xs).opened = s.opened := by
  induction xs generalizing s with
  | nil => rfl
  | cons x rest ih => rw [State.restartEntries]; simp [ih]

/-! ### The Snapshot Engine (R127 to R143) -/

@[simp] theorem State.opened_trigger (s : State) (ev : HwEvent) :
    (s.trigger ev).opened = s.opened := rfl

@[simp] theorem State.opened_reportAllDone (s : State) (xs : List HeldDone) :
    (s.reportAllDone xs).opened = s.opened := by
  induction xs generalizing s with
  | nil => rfl
  | cons x rest ih => rw [State.reportAllDone, ih, State.reportDone, State.opened_report]

@[simp] theorem State.opened_chainEnd (s : State) : s.chainEnd.opened = s.opened := by
  simp [State.chainEnd]

@[simp] theorem State.opened_endRun (s : State) (r : SnapResult) :
    (s.endRun r).opened = s.opened := by
  unfold State.endRun
  split <;> simp [State.reportEnded]

@[simp] theorem State.opened_storeAborted (s : State) : s.storeAborted.opened = s.opened := by
  simp [State.storeAborted, apply_ite State.opened]

@[simp] theorem State.opened_checkLoaded (s : State) (d : Loaded) :
    (s.checkLoaded d).opened = s.opened := by
  unfold State.checkLoaded
  dsimp only
  (repeat' split) <;> simp [State.startCopy, State.addTag]

@[simp] theorem State.opened_dropSource (s : State) : s.dropSource.opened = s.opened := by
  unfold State.dropSource
  split <;> rfl

@[simp] theorem State.opened_settleAbort (s : State) : s.settleAbort.opened = s.opened := by
  unfold State.settleAbort
  (repeat' split) <;> simp

@[simp] theorem State.opened_afterCopy (s : State) (d : Loaded) :
    (s.afterCopy d).opened = s.opened := by simp [State.afterCopy, apply_ite State.opened]

@[simp] theorem State.opened_copyEnd (s : State) : s.copyEnd.opened = s.opened := by
  unfold State.copyEnd
  (repeat' split) <;> simp

@[simp] theorem State.opened_burstWaitEnd (s : State) (c : CamId) :
    (s.burstWaitEnd c).opened = s.opened := by simp [State.burstWaitEnd, apply_ite State.opened]

@[simp] theorem State.opened_burstNextFrame (s : State) (c : CamId) (j : Nat) :
    (s.burstNextFrame c j).opened = s.opened := by
  unfold State.burstNextFrame
  (repeat' split) <;> rfl

@[simp] theorem State.opened_followLink (s : State) (target : DescId) :
    (s.followLink target).opened = s.opened := by
  simp [State.followLink, State.reportEnded, apply_ite State.opened]

@[simp] theorem State.opened_takeEngineEnable (s : State) :
    s.takeEngineEnable.opened = s.opened := rfl

@[simp] theorem State.opened_takeEngineDisable (s : State) :
    s.takeEngineDisable.opened = s.opened := rfl

@[simp] theorem State.opened_takeStart (s : State) : s.takeStart.opened = s.opened := by
  simp [State.takeStart, apply_ite State.opened]

@[simp] theorem State.opened_takeSnapshotArm (s : State) : s.takeSnapshotArm.opened = s.opened := by
  simp [State.takeSnapshotArm, apply_ite State.opened]

@[simp] theorem State.opened_endEarly (s : State) (why : Ending) :
    (s.endEarly why).opened = s.opened := by
  unfold State.endEarly
  (repeat' split) <;> simp

@[simp] theorem State.opened_abortRun (s : State) : s.abortRun.opened = s.opened := by
  simp [State.abortRun, apply_ite State.opened]

@[simp] theorem State.opened_takeAbort (s : State) : s.takeAbort.opened = s.opened := by
  simp [State.takeAbort, apply_ite State.opened]

@[simp] theorem State.opened_stepLoad (s : State) : s.stepLoad.opened = s.opened := by
  unfold State.stepLoad
  (repeat' split) <;> rfl

@[simp] theorem State.opened_loadReturn (s : State) (run : Nat) (d : Beat) :
    (s.loadReturn run d).opened = s.opened := by
  unfold State.loadReturn
  dsimp only
  (repeat' split) <;> simp

@[simp] theorem State.opened_stepCopyRead (s : State) : s.stepCopyRead.opened = s.opened := by
  unfold State.stepCopyRead
  (repeat' split) <;> rfl

@[simp] theorem State.opened_copyReadBack (s : State) (run : Nat) (d : Beat) :
    (s.copyReadBack run d).opened = s.opened := by
  unfold State.copyReadBack
  (repeat' split) <;> simp

@[simp] theorem State.opened_stepCopyWrite (s : State) : s.stepCopyWrite.opened = s.opened := by
  unfold State.stepCopyWrite
  dsimp only
  (repeat' split) <;> simp

@[simp] theorem State.opened_stepArmWrite (s : State) : s.stepArmWrite.opened = s.opened := by
  unfold State.stepArmWrite
  (repeat' split) <;> rfl

@[simp] theorem State.opened_engineRequest (s : State) (code : Byte) :
    (s.engineRequest code).opened = s.opened := by
  simp [State.engineRequest, apply_ite State.opened]

/-! ### The Lens Evaluator (R47 to R67) -/

@[simp] theorem State.opened_modEval (s : State) (c : CamId) (f : Evaluator → Evaluator) :
    (s.modEval c f).opened = s.opened := rfl

@[simp] theorem State.opened_clearTables (s : State) (c : CamId) :
    (s.clearTables c).opened = s.opened := by
  simp [State.clearTables, State.reportVerdict, apply_ite State.opened]

@[simp] theorem State.opened_activate (s : State) (c : CamId) :
    (s.activate c).opened = s.opened := by simp [State.activate]

@[simp] theorem State.opened_learnStep (s : State) (c : CamId) (seq : BitVec 32) (v : FrameValues) :
    (s.learnStep c seq v).opened = s.opened := by simp [State.learnStep, apply_ite State.opened]

@[simp] theorem State.opened_watchStep (s : State) (c : CamId) (seq : BitVec 32) (v : FrameValues) :
    (s.watchStep c seq v).opened = s.opened := by
  simp [State.watchStep, State.reportVerdict, apply_ite State.opened]

@[simp] theorem State.opened_evaluate (s : State) (c : CamId) (seq : BitVec 32) (v : FrameValues) :
    (s.evaluate c seq v).opened = s.opened := by
  unfold State.evaluate
  dsimp only
  (repeat' split) <;> simp

@[simp] theorem State.opened_countEligible (s : State) (c : CamId) (seq : BitVec 32)
    (v : FrameValues) : (s.countEligible c seq v).opened = s.opened := by
  simp [State.countEligible, apply_ite State.opened]

@[simp] theorem State.opened_endRestartWait (s : State) (c : CamId) :
    (s.endRestartWait c).opened = s.opened := by
  unfold State.endRestartWait
  (repeat' split) <;> simp

@[simp] theorem State.opened_countRestart (s : State) (c : CamId) :
    (s.countRestart c).opened = s.opened := by simp [State.countRestart, apply_ite State.opened]

@[simp] theorem State.opened_lensCompletion (s : State) (c : CamId) (seq : BitVec 32)
    (disordered : Bool) (v : FrameValues) :
    (s.lensCompletion c seq disordered v).opened = s.opened := by
  unfold State.lensCompletion
  (repeat' split) <;> simp

@[simp] theorem State.opened_lensStale (s : State) (c : CamId) :
    (s.lensStale c).opened = s.opened := rfl

@[simp] theorem State.opened_lensLive (s : State) (c : CamId) :
    (s.lensLive c).opened = s.opened := rfl

@[simp] theorem State.opened_lensLost (s : State) (c : CamId) :
    (s.lensLost c).opened = s.opened := by
  unfold State.lensLost
  (repeat' split) <;> simp

@[simp] theorem State.opened_lensOff (s : State) (c : CamId) : (s.lensOff c).opened = s.opened := by
  unfold State.lensOff
  (repeat' split) <;> simp

@[simp] theorem State.opened_setMode (s : State) (c : CamId) (m : EvMode) :
    (s.setMode c m).opened = s.opened := rfl

@[simp] theorem State.opened_takeEvalRun (s : State) (c : CamId) :
    (s.takeEvalRun c).opened = s.opened := by
  unfold State.takeEvalRun
  dsimp only
  (repeat' split) <;> simp

@[simp] theorem State.opened_takeEvalPause (s : State) (c : CamId) :
    (s.takeEvalPause c).opened = s.opened := by
  unfold State.takeEvalPause
  dsimp only
  (repeat' split) <;> simp

@[simp] theorem State.opened_takeEvalStop (s : State) (c : CamId) :
    (s.takeEvalStop c).opened = s.opened := by simp [State.takeEvalStop]

@[simp] theorem State.opened_relearn (s : State) (c : CamId) (st : EvState) :
    (s.relearn c st).opened = s.opened := by simp [State.relearn]

@[simp] theorem State.opened_takeRelearn (s : State) (c : CamId) :
    (s.takeRelearn c).opened = s.opened := by
  unfold State.takeRelearn
  (repeat' split) <;> simp

/-! ### The Intake Tracker (R3 to R26) -/

@[simp] theorem State.opened_enterLive (s : State) (c : CamId) :
    (s.enterLive c).opened = s.opened := by
  simp [State.enterLive, State.reportChannel, apply_ite State.opened]

@[simp] theorem State.opened_enterStale (s : State) (c : CamId) :
    (s.enterStale c).opened = s.opened := by simp [State.enterStale, State.reportChannel]

@[simp] theorem State.opened_enterLost (s : State) (c : CamId) :
    (s.enterLost c).opened = s.opened := by simp [State.enterLost, State.reportChannel]

@[simp] theorem State.opened_staleExpiry (s : State) (c : CamId) :
    (s.staleExpiry c).opened = s.opened := by simp [State.staleExpiry, apply_ite State.opened]

@[simp] theorem State.opened_lostExpiry (s : State) (c : CamId) :
    (s.lostExpiry c).opened = s.opened := by simp [State.lostExpiry, apply_ite State.opened]

@[simp] theorem State.opened_truncate (s : State) (c : CamId) (cause : TruncCause) :
    (s.truncate c cause).opened = s.opened := by
  unfold State.truncate
  dsimp only
  split
  · rfl
  · rw [State.opened_report, State.opened_setCam]

@[simp] theorem State.opened_gapExpiry (s : State) (c : CamId) :
    (s.gapExpiry c).opened = s.opened := by simp [State.gapExpiry]

@[simp] theorem State.opened_frameStart (s : State) (c : CamId) :
    (s.frameStart c).opened = s.opened := by
  simp [State.frameStart, State.reportDrop, apply_ite State.opened]

@[simp] theorem State.opened_frameCompletion (s : State) (c : CamId) (r : IntakeRec) :
    (s.frameCompletion c r).opened = s.opened := by
  unfold State.frameCompletion
  dsimp only
  cases r.target <;> simp

@[simp] theorem State.opened_storeBeat (s : State) (c : CamId) (t : Option Nat) (b : Nat)
    (d : Beat) (en : Enables) : (s.storeBeat c t b d en).opened = s.opened := by
  unfold State.storeBeat
  split <;> rfl

@[simp] theorem State.opened_frameBeat (s : State) (c : CamId) (b : Nat) (d : Beat) (en : Enables) :
    (s.frameBeat c b d en).opened = s.opened := by
  unfold State.frameBeat
  dsimp only
  (repeat' split) <;> simp

@[simp] theorem State.opened_intakeWrite (s : State) (c : CamId) (a : Nat) (d : Beat)
    (en : Enables) : (s.intakeWrite c a d en).opened = s.opened := by
  simp [State.intakeWrite, apply_ite State.opened]

@[simp] theorem State.opened_intakeRead (s : State) (c : CamId) (p : PortTag) (a : Nat) :
    (s.intakeRead c p a).opened = s.opened := by
  unfold State.intakeRead
  dsimp only
  split
  · rfl
  · rfl

@[simp] theorem State.opened_takeArm (s : State) (c : CamId) :
    (s.takeArm c).opened = s.opened := by
  simp [State.takeArm, State.armCamera, apply_ite State.opened]

@[simp] theorem State.opened_takeDisarm (s : State) (c : CamId) :
    (s.takeDisarm c).opened = s.opened := by
  simp [State.takeDisarm, State.disarmCamera, apply_ite State.opened]

@[simp] theorem State.opened_takeSkip (s : State) (c : CamId) :
    (s.takeSkip c).opened = s.opened := by simp [State.takeSkip, apply_ite State.opened]

@[simp] theorem State.opened_takeReset (s : State) (c : CamId) :
    (s.takeReset c).opened = s.opened := by
  simp [State.takeReset, State.resetCamera, apply_ite State.opened]

@[simp] theorem State.opened_cameraRequest (s : State) (c : CamId) (code : Byte) :
    (s.cameraRequest c code).opened = s.opened := by
  simp [State.cameraRequest, apply_ite State.opened]

/-! ### The entrance lines and the config page (R71 to R79, R154) -/

@[simp] theorem State.opened_formEdge (s : State) (l : LineId) :
    (s.formEdge l).opened = s.opened := rfl

@[simp] theorem State.opened_filterLine (s : State) (l : LineId) :
    (s.filterLine l).opened = s.opened := by simp [State.filterLine, apply_ite State.opened]

@[simp] theorem State.opened_pinChange (s : State) (l : LineId) (level : Bool) :
    (s.pinChange l level).opened = s.opened := by simp [State.pinChange]

@[simp] theorem State.opened_polarityChange (s : State) (l : LineId) (old : LineSettings) :
    (s.polarityChange l old).opened = s.opened := by
  simp [State.polarityChange, apply_ite State.opened]

@[simp] theorem State.opened_filterExpiry (s : State) (l : LineId) :
    (s.filterExpiry l).opened = s.opened := by simp [State.filterExpiry, apply_ite State.opened]

@[simp] theorem State.opened_setUpLine (s : State) (l : LineId) (pin : Bool) :
    (s.setUpLine l pin).opened = s.opened := by simp [State.setUpLine, apply_ite State.opened]

@[simp] theorem State.opened_setUpLines (s : State) (xs : List LineId) :
    (s.setUpLines xs).opened = s.opened := by
  induction xs generalizing s with
  | nil => rfl
  | cons x rest ih => rw [State.setUpLines]; simp [ih]

@[simp] theorem State.opened_powerOnLines (s : State) (pins : Vector Bool 4) (ls : List LineId) :
    (s.powerOnLines pins ls).opened = s.opened := by
  induction ls generalizing s with
  | nil => rfl
  | cons l rest ih => rw [State.powerOnLines]; simp [ih]

@[simp] theorem State.opened_polarityChanges (s : State) (old : State) (xs : List LineId) :
    (s.polarityChanges old xs).opened = s.opened := by
  induction xs generalizing s with
  | nil => rfl
  | cons x rest ih => rw [State.polarityChanges]; simp [ih]

@[simp] theorem State.opened_putSetting (s : State) (o : Nat) (b : Byte) :
    (s.putSetting o b).opened = s.opened := by
  unfold State.putSetting
  split
  case h_3 x j _ => exact State.opened_setScreen s x _ rfl
  all_goals rfl

@[simp] theorem State.opened_mergeBytes (s : State) (o : Nat) (d : Beat) (en : Enables)
    (xs : List Nat) : (s.mergeBytes o d en xs).opened = s.opened := by
  induction xs generalizing s with
  | nil => rfl
  | cons x rest ih =>
    rw [State.mergeBytes, ih, State.mergeByte]
    (repeat' split) <;> simp

@[simp] theorem State.opened_reportIgnored (s : State) (o n : Nat) :
    (s.reportIgnored o n).opened = s.opened := by simp [State.reportIgnored, apply_ite State.opened]

@[simp] theorem State.opened_mergeConfig (s : State) (o : Nat) (d : Beat) (en : Enables) :
    (s.mergeConfig o d en).opened = s.opened := by simp [State.mergeConfig]

@[simp] theorem State.opened_mergeDescriptor (s : State) (o : Nat) (d : Beat) (en : Enables) :
    (s.mergeDescriptor o d en).opened = s.opened := rfl

/-! ### Beats passed, granted and returned (R158, R159) -/

theorem State.opened_attention (s : State) (a : Attention) (n : Nat) :
    State.opened { s with attention := a, liveReads := n } = s.opened := rfl

@[simp] theorem State.opened_liveRead (s : State) (p : PortTag) (o : Nat) :
    (s.liveRead p o).opened = s.opened :=
  (State.opened_attention _ _ _).trans (State.opened_answerRead ..)

@[simp] theorem State.opened_passRead (s : State) (p : PortTag) (a : Nat) :
    (s.passRead p a).opened = s.opened := rfl

@[simp] theorem State.opened_passWrite (s : State) (p : PortTag) (a : Nat) (d : Beat)
    (en : Enables) : (s.passWrite p a d en).opened = s.opened := rfl

@[simp] theorem State.opened_pass (s : State) (p : PortTag) (a : Nat) (xs : BeatOp) :
    (s.pass p a xs).opened = s.opened := by cases xs <;> rfl

@[simp] theorem State.opened_grant (s : State) : s.grant.opened = s.opened := by
  unfold State.grant State.send
  (repeat' split) <;> rfl

@[simp] theorem State.opened_passReturn (s : State) : s.passReturn.opened = s.opened := by
  unfold State.passReturn
  split <;> simp

@[simp] theorem State.opened_intakeReturn (s : State) : s.intakeReturn.opened = s.opened := by
  unfold State.intakeReturn
  split <;> simp

@[simp] theorem State.opened_descReturn (s : State) : s.descReturn.opened = s.opened := by
  unfold State.descReturn
  split <;> simp

@[simp] theorem State.opened_copyReturn (s : State) : s.copyReturn.opened = s.opened := by
  unfold State.copyReturn
  split <;> simp

@[simp] theorem State.opened_handNextFetch (s : State) : s.handNextFetch.opened = s.opened := by
  unfold State.handNextFetch
  (repeat' split) <;> rfl

@[simp] theorem State.opened_handNextRecord (s : State) : s.handNextRecord.opened = s.opened := by
  unfold State.handNextRecord
  (repeat' split) <;> rfl

/-! ### Updates that keep words and COMMITs in agreement -/

/-- Each screen's open tag is its COMMIT's, and no word of a camera or the engine is open. -/
def OpenWords.agree (w : OpenWords) : Prop :=
  (∀ sc, w.screens sc = w.commits sc) ∧ (∀ c, w.cams c = none) ∧ w.engine = none

theorem State.wordsAgree_iff (s : State) : s.wordsAgree ↔ s.opened.agree := Iff.rfl

theorem State.wordsAgree_of_opened {s t : State} (hs : s.wordsAgree) (h : t.opened = s.opened) :
    t.wordsAgree := by
  rw [State.wordsAgree_iff, h]
  exact hs

/-- A screen and its word changed together. -/
theorem State.wordsAgree_setCommit {s : State} (hs : s.wordsAgree) (sc : ScrId) {x : Screen}
    {m : Mailbox} (h : m.openTag = x.pendingCommit) :
    ((s.setScreen sc x).setMailbox (.screen sc) m).wordsAgree := by
  obtain ⟨hscr, hcam, heng⟩ := hs
  refine ⟨fun i => ?_, fun c => ?_, ?_⟩
  · by_cases hi : i = sc
    · subst hi
      rw [State.mailbox_setMailbox_self, State.screen_setMailbox, State.screen_setScreen_self, h]
    · rw [State.mailbox_setMailbox_of_ne _ _ fun he => hi (Owner.screen.inj he),
        State.screen_setMailbox, State.screen_setScreen_of_ne _ _ hi]
      exact hscr i
  · rw [State.mailbox_setMailbox_of_ne (q := .camera c) (o := .screen sc) _ _ nofun]
    exact hcam c
  · rw [State.mailbox_setMailbox_of_ne (q := .engine) (o := .screen sc) _ _ nofun]
    exact heng

/-! ### COMMITs and latches (R85, R89, R90, R95, R99) -/

/-- The COMMIT that a latch applies ends under its own tag, which closes the word. -/
theorem State.wordsAgree_applyCommit {s : State} (hs : s.wordsAgree) (sc : ScrId) :
    (s.applyCommit sc).wordsAgree := by
  unfold State.applyCommit
  dsimp only
  split
  · exact State.wordsAgree_setCommit hs sc (Mailbox.openTag_ended _ _)
  · exact hs

theorem State.wordsAgree_performLatch {s : State} (hs : s.wordsAgree) (sc : ScrId) :
    (s.performLatch sc).wordsAgree :=
  State.wordsAgree_of_opened (State.wordsAgree_applyCommit hs sc) (by simp [State.performLatch])

theorem State.wordsAgree_latchDue {s : State} (hs : s.wordsAgree) (sc : ScrId) :
    (s.latchDue sc).wordsAgree := by
  unfold State.latchDue
  dsimp only
  split
  · exact State.wordsAgree_of_opened hs (by simp)
  · exact State.wordsAgree_performLatch hs sc

theorem State.wordsAgree_setScreen {s : State} (hs : s.wordsAgree) (sc : ScrId) {x : Screen}
    (h : x.pendingCommit = (s.screen sc).pendingCommit) : (s.setScreen sc x).wordsAgree :=
  State.wordsAgree_of_opened hs (State.opened_setScreen s sc x h)

theorem State.wordsAgree_performOwed {s : State} (hs : s.wordsAgree) (sc : ScrId) :
    (s.performOwed sc).wordsAgree := by
  have ho := State.wordsAgree_setScreen hs sc (x := { s.screen sc with owed := false }) rfl
  unfold State.performOwed
  dsimp only
  split
  · exact State.wordsAgree_of_opened (State.wordsAgree_performLatch ho sc)
      (State.opened_composeWaiting ..)
  · exact hs

theorem State.wordsAgree_releaseAfter {s : State} (hs : s.wordsAgree) (sc : ScrId) (r : SetRole) :
    (s.releaseAfter sc r).wordsAgree := by
  have hd : (s.dropSet sc r).wordsAgree := State.wordsAgree_of_opened hs (State.opened_dropSet s sc r)
  unfold State.releaseAfter
  dsimp only
  split
  · exact hs
  · cases r with
    | retiring => exact State.wordsAgree_performOwed hd sc
    | active =>
      dsimp only
      split
      · exact hd
      · exact hs

theorem State.wordsAgree_fetchReturn {s : State} (hs : s.wordsAgree) (f : Fetch) (d : Beat) :
    (s.fetchReturn f d).wordsAgree := by
  unfold State.fetchReturn
  dsimp only
  split
  · split
    · split
      · exact State.wordsAgree_releaseAfter
          (State.wordsAgree_of_opened hs (by simp [Screen.removeEntry])) f.screen _
      · exact State.wordsAgree_setScreen hs _ rfl
    · exact hs
  · exact hs

theorem State.wordsAgree_syncChange {s : State} (hs : s.wordsAgree) (sc : ScrId) (level : Bool) :
    (s.syncChange sc level).wordsAgree := by
  have hl := State.wordsAgree_setScreen hs sc (x := { s.screen sc with sync := level }) rfl
  unfold State.syncChange
  dsimp only
  split
  · split
    · exact State.wordsAgree_setScreen hl sc (by rw [State.screen_setScreen_self])
    · split
      · exact State.wordsAgree_latchDue hl sc
      · exact State.wordsAgree_setScreen hl sc (by rw [State.screen_setScreen_self])
  · exact hl

theorem State.wordsAgree_screenRead {s : State} (hs : s.wordsAgree) (sc : ScrId) (p : PortTag)
    (o : Nat) : (s.screenRead sc p o).wordsAgree := by
  have hl := State.wordsAgree_setScreen hs sc
    (x := { s.screen sc with lastLine := some ((s.screen sc).geom.lineOf o) }) rfl
  unfold State.screenRead
  dsimp only
  split
  · exact State.wordsAgree_of_opened (State.wordsAgree_latchDue hl sc) (State.opened_serveRead ..)
  · exact State.wordsAgree_of_opened hl (State.opened_serveRead ..)

theorem State.wordsAgree_takeDisable {s : State} (hs : s.wordsAgree) (sc : ScrId) :
    (s.takeDisable sc).wordsAgree := by
  unfold State.takeDisable State.disableScreen
  dsimp only
  split
  · exact State.wordsAgree_of_opened (State.wordsAgree_applyCommit hs sc) (by simp)
  · exact State.wordsAgree_of_opened hs (by simp)

/-- A COMMIT that becomes pending opens the word under its own tag (R85, R165). -/
theorem State.wordsAgree_takeCommit {s : State} (hs : s.wordsAgree) (sc : ScrId) :
    (s.takeCommit sc).wordsAgree := by
  unfold State.takeCommit
  dsimp only
  split
  · split
    · exact State.wordsAgree_of_opened hs (by simp)
    · exact State.wordsAgree_setCommit hs sc rfl
  · exact State.wordsAgree_of_opened hs (by simp)

/-! ### Resets (R162, R167) -/

/-- A RESTART under way: no COMMIT is pending, and the words still open are those of screens, among the ones to
come, whose COMMIT the RESTART drops. -/
def State.closing (s old : State) (xs : List ScrId) : Prop :=
  (∀ sc, (s.screen sc).pendingCommit = none) ∧ (∀ c, (s.mailbox (.camera c)).openTag = none) ∧
    (s.mailbox .engine).openTag = none ∧
    ∀ sc, (s.mailbox (.screen sc)).openTag = none ∨
      sc ∈ xs ∧ (old.screen sc).pendingCommit.isSome = true

theorem State.closing_of_opened {s t old : State} {xs : List ScrId} (hs : s.closing old xs)
    (h : t.opened = s.opened) : t.closing old xs := by
  have hscr := congrFun (congrArg OpenWords.screens h)
  have hcom := congrFun (congrArg OpenWords.commits h)
  have hcam := congrFun (congrArg OpenWords.cams h)
  obtain ⟨hp, hc, he, ho⟩ := hs
  exact ⟨fun sc => (hcom sc).trans (hp sc), fun c => (hcam c).trans (hc c),
    (congrArg OpenWords.engine h).trans he,
    fun sc => (ho sc).imp_left fun hn => (hscr sc).trans hn⟩

theorem State.wordsAgree_of_closing {s old : State} (hs : s.closing old []) : s.wordsAgree := by
  obtain ⟨hp, hc, he, ho⟩ := hs
  refine ⟨fun sc => ?_, hc, he⟩
  rw [hp sc]
  exact (ho sc).resolve_right fun h => by simp at h

theorem State.closing_dropCommit {s old : State} {sc : ScrId} {rest : List ScrId}
    (hs : s.closing old (sc :: rest)) : (s.dropCommit sc (old.screen sc)).closing old rest := by
  obtain ⟨hp, hc, he, ho⟩ := hs
  have hrest (i : ScrId) (hi : i ≠ sc) : (s.mailbox (.screen i)).openTag = none ∨
      i ∈ rest ∧ (old.screen i).pendingCommit.isSome = true :=
    (ho i).imp_right fun h => ⟨(List.mem_cons.mp h.1).resolve_left hi, h.2⟩
  have hother (q : Owner) (hq : q ≠ .screen sc) :
      ((s.answerEnd (.screen sc) .refusedState).mailbox q).openTag = (s.mailbox q).openTag :=
    congrArg Mailbox.openTag (State.mailbox_setMailbox_of_ne s _ hq)
  unfold State.dropCommit
  split
  · refine ⟨fun i => ?_, fun c => (hother (.camera c) nofun).trans (hc c),
      (hother .engine nofun).trans he,
      fun i => ?_⟩
    · rw [State.answerEnd, State.screen_setMailbox]
      exact hp i
    · by_cases hi : i = sc
      · subst hi
        left
        rw [State.answerEnd, State.mailbox_setMailbox_self, Mailbox.openTag_ended]
      · rw [hother _ fun he => hi (Owner.screen.inj he)]
        exact hrest i hi
  · next hn =>
    refine ⟨hp, hc, he, fun i => ?_⟩
    by_cases hi : i = sc
    · subst hi
      exact .inl ((ho i).resolve_right fun h => hn h.2)
    · exact hrest i hi

theorem State.wordsAgree_restartScreens {s old : State} {xs : List ScrId} (hs : s.closing old xs) :
    (s.restartScreens old xs).wordsAgree := by
  induction xs generalizing s with
  | nil => exact State.wordsAgree_of_closing hs
  | cons sc rest ih =>
    exact ih (State.closing_of_opened (State.closing_dropCommit hs) (State.opened_restartEntries ..))

theorem mem_allScreens (sc : ScrId) : sc ∈ allScreens := by revert sc; decide

/-- A RESTART drops every pending COMMIT, and each ends REFUSED_STATE, which closes its word (R102, R167). -/
theorem State.wordsAgree_restartAll {s : State} (hs : s.wordsAgree) : s.restartAll.wordsAgree := by
  obtain ⟨hscr, hcam, heng⟩ := hs
  have hb : s.restartBlocks.closing s allScreens := by
    refine ⟨fun sc => ?_, hcam, heng, fun sc => ?_⟩
    · simp [State.restartBlocks, State.screen, Screen.restart, Screen.powerOn]
    · cases hc : (s.screen sc).pendingCommit with
      | none => exact .inl ((hscr sc).trans hc)
      | some g => exact .inr ⟨mem_allScreens sc, rfl⟩
  exact State.wordsAgree_restartScreens (State.closing_of_opened hb (State.opened_setUpLines ..))

theorem State.wordsAgree_powerOn (s : State) (straps : Straps) (pins : Pins) :
    (s.powerOn straps pins).wordsAgree := by
  refine State.wordsAgree_of_opened ?_ (State.opened_powerOnLines ..)
  exact ⟨fun sc => by simp [State.mailbox, State.screen, Words.powerOn, Mailbox.powerOn, Screen.powerOn],
    fun c => by simp [State.mailbox, Words.powerOn, Mailbox.powerOn], rfl⟩

theorem State.wordsAgree_stepWriteBack {s : State} (hs : s.wordsAgree) : s.stepWriteBack.wordsAgree := by
  unfold State.stepWriteBack
  split
  · split
    · dsimp only
      split
      · exact State.wordsAgree_of_opened (State.wordsAgree_restartAll (State.wordsAgree_of_opened hs (by simp)))
          (State.opened_answerEnd_part ..)
      · split <;> exact State.wordsAgree_of_opened hs (by simp)
    · exact hs
  · exact hs

theorem State.wordsAgree_takeRestart {s : State} (hs : s.wordsAgree) : s.takeRestart.wordsAgree := by
  unfold State.takeRestart
  split
  · exact State.wordsAgree_of_opened hs (by simp)
  · split
    · exact State.wordsAgree_of_opened hs (by simp)
    · exact State.wordsAgree_of_opened (State.wordsAgree_restartAll hs) (State.opened_answer ..)

/-! ### Requests, the upstream port and the timers -/

theorem State.wordsAgree_ownerRequest {s : State} (hs : s.wordsAgree) (o : Owner) (code : Byte) :
    (s.ownerRequest o code).wordsAgree := by
  cases o with
  | part =>
    simp only [State.ownerRequest, State.partRequest]
    split
    · exact State.wordsAgree_takeRestart hs
    · exact State.wordsAgree_of_opened hs (by simp)
  | camera c => exact State.wordsAgree_of_opened hs (State.opened_cameraRequest ..)
  | screen sc =>
    simp only [State.ownerRequest, State.screenRequest]
    split
    · exact State.wordsAgree_of_opened hs (State.opened_takeEnable ..)
    · split
      · exact State.wordsAgree_takeDisable hs sc
      · split
        · exact State.wordsAgree_takeCommit hs sc
        · exact State.wordsAgree_of_opened hs (by simp)
  | engine => exact State.wordsAgree_of_opened hs (State.opened_engineRequest ..)

theorem State.wordsAgree_takeRequest {s : State} (hs : s.wordsAgree) (o : Owner) (code : Byte)
    (f : ReqFields) : (s.takeRequest o code f).wordsAgree := by
  unfold State.takeRequest
  split
  · exact hs
  · refine State.wordsAgree_ownerRequest (State.wordsAgree_of_opened hs ?_) o code
    exact State.opened_setMailbox s o _ (.inr rfl)

theorem State.wordsAgree_requestAt {s : State} (hs : s.wordsAgree) (o : Owner) (d : Beat)
    (en : Enables) (i : Nat) : (s.requestAt o d en i).wordsAgree := by
  unfold State.requestAt
  split
  · exact State.wordsAgree_takeRequest hs o _ _
  · exact hs

theorem State.wordsAgree_requestsAt {s : State} (hs : s.wordsAgree) (d : Beat) (en : Enables)
    (ws : List (Owner × Nat)) : (s.requestsAt d en ws).wordsAgree := by
  induction ws generalizing s with
  | nil => exact hs
  | cons w rest ih => exact ih (State.wordsAgree_requestAt hs w.1 d en w.2)

theorem State.wordsAgree_liveWrite {s : State} (hs : s.wordsAgree) (p : PortTag) (o : Nat) (d : Beat)
    (en : Enables) : (s.liveWrite p o d en).wordsAgree := by
  have hw : (s.writeDone p).wordsAgree := hs
  unfold State.liveWrite State.liveBytes
  dsimp only
  split
  · split
    · exact State.wordsAgree_of_opened hw (State.opened_writeConsumer ..)
    · exact hw
  · split
    · exact State.wordsAgree_requestAt hw _ _ _ _
    · split
      · exact State.wordsAgree_requestsAt hw _ _ _
      · exact hw

theorem State.wordsAgree_acceptClass {s : State} (hs : s.wordsAgree) (cl : Class) (p : PortTag)
    (a : Nat) (op : BeatOp) : (s.acceptClass cl p a op).wordsAgree := by
  unfold State.acceptClass
  split
  case h_5 => exact State.wordsAgree_liveWrite hs _ _ _ _
  case h_12 => exact State.wordsAgree_screenRead hs _ _ _
  all_goals exact State.wordsAgree_of_opened hs (by simp)

theorem State.wordsAgree_acceptItem {s : State} (hs : s.wordsAgree) (x : UpItem) :
    (s.acceptItem x).wordsAgree := by
  cases x with
  | beat p a op => exact State.wordsAgree_acceptClass hs _ p _ op
  | request p o code f => exact State.wordsAgree_takeRequest (s := s.writeDone p) hs o code f
  | consumer p v => exact State.wordsAgree_of_opened hs (by simp [State.acceptItem])

theorem State.wordsAgree_present {s : State} (hs : s.wordsAgree) (x : UpItem) :
    (s.present x).wordsAgree := by
  unfold State.present
  split
  · exact State.wordsAgree_acceptItem hs x
  · exact hs

theorem State.wordsAgree_drain {s : State} (hs : s.wordsAgree) (xs : List UpItem) :
    (s.drain xs).wordsAgree := by
  induction xs generalizing s with
  | nil => exact hs
  | cons x rest ih =>
    unfold State.drain
    split
    · exact ih (State.wordsAgree_acceptItem hs x)
    · exact hs

theorem State.wordsAgree_settle {s : State} (hs : s.wordsAgree) : s.settle.wordsAgree :=
  State.wordsAgree_drain hs _

theorem State.wordsAgree_runOut {s : State} (hs : s.wordsAgree) (x : Timer) :
    (s.runOut x).wordsAgree := by
  cases x with
  | stale c => exact State.wordsAgree_of_opened hs (State.opened_staleExpiry ..)
  | lost c => exact State.wordsAgree_of_opened hs (State.opened_lostExpiry ..)
  | gap c => exact State.wordsAgree_of_opened hs (State.opened_gapExpiry ..)
  | filter l => exact State.wordsAgree_of_opened hs (State.opened_filterExpiry ..)
  | offset sc | cycle sc =>
    refine State.wordsAgree_latchDue (State.wordsAgree_setScreen hs sc ?_) sc
    rfl

theorem State.wordsAgree_expire {s : State} (hs : s.wordsAgree) (x : Timer) :
    (s.expire x).wordsAgree := by
  unfold State.expire
  split
  · exact State.wordsAgree_settle (State.wordsAgree_runOut hs x)
  · exact hs

theorem State.wordsAgree_expireAll {s : State} (hs : s.wordsAgree) (xs : List Timer) :
    (s.expireAll xs).wordsAgree := by
  induction xs generalizing s with
  | nil => exact hs
  | cons x rest ih => exact ih (State.wordsAgree_expire hs x)

theorem State.opened_tick (s : State) : State.opened { s with
    timebase := s.timebase + 1
    cams := s.cams.map Camera.momentOver } = s.opened := rfl

theorem State.wordsAgree_composeReturn {s : State} (hs : s.wordsAgree) : s.composeReturn.wordsAgree := by
  unfold State.composeReturn
  split
  · exact State.wordsAgree_fetchReturn (s := s.popRead) hs _ _
  · exact hs

/-! ### One step -/

/-- Every command answers a next state in which words and COMMITs agree. -/
theorem exec_keeps_wordsAgree {s : State} (hs : s.wordsAgree) (i : Instr) :
    Gives i s State.wordsAgree := by
  have keep {t : State} (h : t.opened = s.opened) : t.settle.wordsAgree :=
    State.wordsAgree_settle (State.wordsAgree_of_opened hs h)
  cases i with
  | powerOnReset straps pins => exact ⟨_, rfl, State.wordsAgree_powerOn s straps pins⟩
  | timebaseTick =>
    exact ⟨_, rfl, State.wordsAgree_of_opened (State.wordsAgree_expireAll hs allTimers)
      (State.opened_tick _)⟩
  | entrancePinChange l level =>
    refine ⟨_, rfl, ?_⟩
    split
    · exact hs
    · exact keep (State.opened_pinChange ..)
  | syncLineChange sc level =>
    refine ⟨_, rfl, ?_⟩
    split
    · exact hs
    · exact State.wordsAgree_settle (State.wordsAgree_syncChange hs sc level)
  | staleTimerExpiry | lostTimerExpiry | gapTimerExpiry | filterTimerExpiry | offsetTimerExpiry
  | cycleTimerExpiry => exact ⟨_, rfl, State.wordsAgree_expire hs _⟩
  | intakeWriteBeat | intakeReadBeat | intakeOffBeat | screenReadBeat | screenWriteBeat
  | screenOffBeat | plainBeat | configWrite | descriptorWrite | attentionSummaryRead
  | consumerIndexWrite | liveWriteAbsorbed | unknownCode | restart | restartWaitIdle | arm | disarm
  | skip | reset | evalRun | evalPause | evalStop | relearn | enable | disable | commit
  | engineEnable | engineDisable | start | snapshotArm | abort =>
    exact ⟨_, rfl, State.wordsAgree_present hs _⟩
  | descriptorWriteBack =>
    exact ⟨_, rfl, State.wordsAgree_settle (State.wordsAgree_stepWriteBack hs)⟩
  | composerFetchReturn =>
    exact ⟨_, rfl, State.wordsAgree_settle (State.wordsAgree_composeReturn hs)⟩
  | intakeReadReturn | passReadReturn | arbiterGrant | composerFetchHanding
  | descriptorLoad | descriptorLoadReturn | copyRead | copyReadReturn | copyWrite | armWrite
  | reportHanding => exact ⟨_, rfl, keep (by simp)⟩

/-- Settles O59: a word of a screen opens with the COMMIT that becomes pending, and closes with the latch, the
DISABLE or the reset that ends it. -/
theorem stepKeepsWordsOfCommits : Obligations.StepKeepsWordsOfCommits := by
  unfold Obligations.StepKeepsWordsOfCommits
  intro s t hs hstep
  cases hp : s.pending with
  | nil =>
    rw [step_nil s hp] at hstep
    cases hstep
    exact hs
  | cons i rest =>
    rw [step_cons s i rest hp] at hstep
    obtain ⟨u, hu, hju⟩ := exec_keeps_wordsAgree (s := { s with pending := rest }) hs i
    rw [hu] at hstep
    cases hstep
    exact hju

end Sys2Proof.Machine

/-!
The latch (R85, R90 to R95): the camera entries and the layout it chooses, the state it leaves, and the latches that
an expiry and a sync edge bring (R87 to R89).
-/
namespace Sys2Proof.Machine

/-! ### What a latch reads (R91 to R94) -/

theorem Camera.early_iff (x : Camera) (j : Nat) : x.early j ↔ x.earlySlot = some j := by
  unfold Camera.early Camera.earlySlot
  cases x.intake with
  | none => simp
  | some r =>
    dsimp only
    split <;> grind

/-- A camera entry is formed by the rules R92 to R94. -/
theorem Camera.latches_entry (x : Camera) : x.latches x.entry := by
  unfold Camera.latches Camera.entry
  simp only [Camera.early_iff]
  by_cases hf : x.chan = .disarmed ∨ x.chan = .lost
  · rw [if_pos hf]
    exact ⟨fun _ => rfl, fun hd hl => absurd hf (not_or.mpr ⟨hd, hl⟩)⟩
  · rw [if_neg hf]
    refine ⟨fun h => absurd h hf, fun _ _ => ?_⟩
    cases he : x.earlySlot with
    | some t => exact ⟨.inl ⟨rfl, rfl⟩, rfl⟩
    | none =>
      cases hn : x.newest with
      | some j => exact ⟨.inr ⟨nofun, hn, rfl⟩, rfl⟩
      | none => exact ⟨nofun, List.getLast?_eq_none_iff.mp hn, rfl, rfl⟩

theorem Layout.present_iff (l : Layout) : l.present = true ↔ l.count ≠ 0 := by
  unfold Layout.present Layout.used
  rw [decide_eq_true_iff]
  split <;> bv_omega

theorem sorted_allLines : allLines.Pairwise (· < ·) := by decide

/-- The layout choice is that of the lowest active line with an entrance layout (R91). -/
theorem State.chosen_chooseLayout (s : State) (ls : Layouts) : Chosen s ls (s.chooseLayout ls) := by
  have hno (m : LineId) (h : ¬((s.line m).accepted && ls.entrance[m].present) = true) :
      (s.line m).accepted = false ∨ ls.entrance[m].count = 0 := by
    rw [Bool.and_eq_true, Layout.present_iff] at h
    grind
  unfold State.chooseLayout
  split
  · next l hl =>
    obtain ⟨hp, as, bs, hsplit, has⟩ := List.find?_eq_some_iff_append.mp hl
    rw [Bool.and_eq_true, Layout.present_iff] at hp
    refine ⟨hp, fun m hm => hno m ?_⟩
    have hmem := mem_allLines m
    have hsort := sorted_allLines
    rw [hsplit] at hmem hsort
    have hbs := (List.pairwise_cons.mp (List.pairwise_append.mp hsort).2.1).1
    have : m ∈ as := by
      rcases List.mem_append.mp hmem with h | h
      · exact h
      · rcases List.mem_cons.mp h with rfl | h
        · exact absurd hm (lt_irrefl _)
        · exact absurd (hbs m h) (lt_asymm hm)
    exact Bool.not_eq_true _ ▸ (Bool.not_eq_true' _).mp (has m this)
  · next hn =>
    exact fun m => hno m (List.find?_eq_none.mp hn m (mem_allLines m))

/-- The screen once a pending COMMIT has been applied (R85). -/
def Screen.committedNow (y : Screen) : Screen :=
  { y with committed := y.layoutsNow, pendingCommit := none }

theorem State.newSet_congr {s u : State} {y z : Screen} (hcams : ∀ c, (u.cam c).entry = (s.cam c).entry)
    (hcfg : z.cfg = y.cfg) (hcom : z.committed = y.committed) (choice : LayoutChoice) :
    u.newSet z choice = s.newSet y choice := by
  unfold State.newSet
  simp only [hcams, hcfg, hcom]

/-- The new set is made as R90 says, from the committed layouts the latch leaves. -/
theorem State.setMade_newSet (s : State) (y : Screen) (choice : LayoutChoice) :
    s.setMade y choice (s.newSet y.committedNow choice) := by
  refine ⟨rfl, rfl, rfl, rfl, rfl, rfl, rfl, fun c => ?_⟩
  have hc : (s.newSet y.committedNow choice).cams[c] =
      if (y.layoutsNow.get choice).uses c then some (s.cam c).entry else none := by
    simp [State.newSet, Screen.committedNow]
    rfl
  rw [hc]
  by_cases hu : (y.layoutsNow.get choice).uses c = true
  · rw [if_pos hu]
    exact ⟨hu, Camera.latches_entry _⟩
  · rw [if_neg hu]
    exact Bool.eq_false_iff.mpr hu

/-! ### The steps of a latch (R85, R90, R91) -/

theorem State.setMailbox_mailbox (s : State) (o : Owner) : s.setMailbox o (s.mailbox o) = s := by
  cases o <;> simp [State.setMailbox, State.mailbox]

/-- The pending COMMIT, if any, is applied, and its word ends DONE (R85; R90, step 1). -/
theorem State.applyCommit_eq (s : State) (sc : ScrId) :
    s.applyCommit sc = (s.setScreen sc (s.screen sc).committedNow).setMailbox (.screen sc)
      ((s.mailbox (.screen sc)).commitEnded (s.screen sc)) := by
  unfold State.applyCommit
  dsimp only
  split
  · next g hp =>
    have hy : (s.screen sc).committedNow =
        { s.screen sc with committed := (s.screen sc).cfg.staged, pendingCommit := none } := by
      simp [Screen.committedNow, Screen.layoutsNow, hp]
    have hm : (s.mailbox (.screen sc)).ended .done =
        (s.mailbox (.screen sc)).commitEnded (s.screen sc) := by
      unfold Mailbox.ended Mailbox.commitEnded
      rw [hp]
      cases (s.mailbox (.screen sc)).openTag <;> rfl
    rw [hy, ← hm]
    rfl
  · next hp =>
    have hy : (s.screen sc).committedNow = s.screen sc := by
      simp [Screen.committedNow, Screen.layoutsNow, hp]
      rw [← hp]
    have hm : (s.mailbox (.screen sc)).commitEnded (s.screen sc) = s.mailbox (.screen sc) := by
      unfold Mailbox.commitEnded
      rw [hp]
    rw [hy, hm, State.setScreen_screen, State.setMailbox_mailbox]

/-- Reports neither read nor change the screens and the words. -/
theorem State.handStaged_screens (s : State) (screens : Vector Screen 3) (words : Words)
    (xs : List Record) :
    State.handStaged { s with screens := screens, words := words } xs =
      { s.handStaged xs with screens := screens, words := words } := by
  induction xs generalizing s with
  | nil => rfl
  | cons x rest ih =>
    have hroom : State.room { s with screens := screens, words := words } .report =
      s.room .report := rfl
    rw [State.handStaged, State.handStaged, hroom]
    split
    · exact ih (s.handRecord x)
    · rfl

theorem State.report_screens (s : State) (screens : Vector Screen 3) (words : Words) (k : Kind)
    (src : Nat) (d0 d1 : BitVec 32) :
    State.report { s with screens := screens, words := words } k src d0 d1 =
      { s.report k src d0 d1 with screens := screens, words := words } := by
  have hm : State.masked { s with
      screens := screens, words := words, attention := s.attention.set k } k =
    State.masked { s with attention := s.attention.set k } k := rfl
  unfold State.report
  dsimp only
  rw [hm]
  split
  · rfl
  · exact State.handStaged_screens { s with
      attention := s.attention.set k, ring := s.ring.take k src s.timebase d0 d1 } screens words _

theorem State.reportLayout_eq (s : State) (sc : ScrId) (choice : LayoutChoice) :
    s.reportLayout sc choice =
      { s with
        ring := (s.reportLayout sc choice).ring
        attention := (s.reportLayout sc choice).attention
        arb := (s.reportLayout sc choice).arb } := by
  unfold State.reportLayout
  dsimp only
  split
  · rfl
  · rw [State.report_eq]

/-- A latch reports as the state before its COMMIT would: of the screen it reads the choice and the latch count,
which a COMMIT leaves (R91). -/
theorem State.reportLayout_update (s : State) (screens : Vector Screen 3) (words : Words) {sc : ScrId}
    (hchoice : screens[sc].choice = (s.screen sc).choice)
    (hcount : screens[sc].latchCount = (s.screen sc).latchCount) (choice : LayoutChoice) :
    State.reportLayout { s with screens := screens, words := words } sc choice =
      { s.reportLayout sc choice with screens := screens, words := words } := by
  have hy : State.screen { s with screens := screens, words := words } sc = screens[sc] := rfl
  unfold State.reportLayout
  dsimp only
  rw [hy, hchoice, hcount]
  split
  · rfl
  · exact State.report_screens ..

/-- The screen a latch leaves, with the set it has made (R90). -/
def Screen.latched (y : Screen) (hs : HoldSet) (choice : LayoutChoice) : Screen :=
  { y with
    committed := y.layoutsNow
    pendingCommit := none
    active := some hs
    retiring := if y.keepsOld then y.active else none
    choice := some choice
    state := .running
    latchCount := y.latchCount + 1
    misuse := false
    table := if y.active.isSome then y.table.map Entry.retired else y.table }

/-- The old set's part of what a latch does to a slot. -/
def retireSlot (sc : ScrId) (y : Screen) (c : CamId) (j : Nat) (q : Slot) : Slot :=
  if y.keepsOld then q.retired (setTags sc .active y.active c j)
  else if y.active.isSome then
    q.without (setTags sc .active y.active c j ||| setTags sc .retiring y.active c j)
  else q

/-- The screen without its active set, which retires (R90, step 3). -/
def Screen.retired (y : Screen) : Screen :=
  { y with
    active := none
    retiring := if y.keepsOld then y.active else none
    table := if y.active.isSome then y.table.map Entry.retired else y.table }

theorem Screen.retired_of_none {y : Screen} (ha : y.active = none) (hr : y.retiring = none) :
    y.retired = y := by
  cases y
  subst ha hr
  simp [Screen.retired, Screen.keepsOld]

/-- The step of a latch that retires the old set, whether there is one or not (R90, step 3). -/
theorem State.retire_eq {s : State} {sc : ScrId} (hr : (s.screen sc).retiring = none) :
    s.retire sc = (s.setScreen sc (s.screen sc).retired).slotsBy (retireSlot sc (s.screen sc)) := by
  cases h : (s.screen sc).active with
  | none =>
    have hf : retireSlot sc (s.screen sc) = fun _ _ q => q := by
      funext c j q
      simp [retireSlot, Screen.keepsOld, h]
    rw [State.retire_of_none h, Screen.retired_of_none h hr, hf, State.setScreen_screen,
      State.slotsBy_id]
  | some hs =>
    have hf : retireSlot sc (s.screen sc) = fun c j q =>
        if (s.screen sc).keepsOld then q.retired (setTags sc .active (some hs) c j)
        else q.without (setTags sc .active (some hs) c j ||| setTags sc .retiring (some hs) c j) := by
      funext c j q
      simp [retireSlot, h]
    rw [State.retire_of_some h, hf]
    simp [Screen.retired, h]

/-- The old set retires and the new one is installed (R90, steps 3 to 5). -/
theorem State.install_retire {s : State} {sc : ScrId} (hr : (s.screen sc).retiring = none)
    (choice : LayoutChoice) :
    (s.retire sc).install sc choice =
      (s.setScreen sc
        { (s.screen sc).retired with
          active := some (s.newSet (s.screen sc) choice)
          choice := some choice
          latchCount := (s.screen sc).latchCount + 1
          state := .running
          misuse := false }).slotsBy fun c j q =>
        (retireSlot sc (s.screen sc) c j q).withTags
          (setTags sc .active (some (s.newSet (s.screen sc) choice)) c j) := by
  have hscreen : (s.retire sc).screen sc = (s.screen sc).retired := by
    rw [State.retire_eq hr, State.screen_slotsBy, State.screen_setScreen_self]
  have hset : (s.retire sc).newSet (s.screen sc).retired choice = s.newSet (s.screen sc) choice := by
    refine State.newSet_congr (fun c => ?_) rfl rfl choice
    rw [State.retire_eq hr, State.cam_slotsBy]
    rfl
  rw [State.install_eq, hscreen, hset, State.retire_eq hr, State.setScreen_slotsBy,
    State.setScreen_setScreen, State.slotsBy_slotsBy]
  rfl

/-- What a latch of screen `sc` makes of the state, for the layout choice and the set given (R90). -/
def State.latchedWith (s : State) (sc : ScrId) (choice : LayoutChoice) (hs : HoldSet) : State :=
  { (s.setScreen sc ((s.screen sc).latched hs choice)).slotsBy (latchTags sc (s.screen sc) hs) with
    words := (s.setMailbox (.screen sc)
      ((s.mailbox (.screen sc)).commitEnded (s.screen sc))).words
    ring := (s.reportLayout sc choice).ring
    attention := (s.reportLayout sc choice).attention
    arb := (s.reportLayout sc choice).arb }

theorem State.performLatch_eq {s : State} {sc : ScrId} (hr : (s.screen sc).retiring = none) :
    s.performLatch sc =
      s.latchedWith sc (s.chooseLayout (s.screen sc).layoutsNow)
        (s.newSet (s.screen sc).committedNow (s.chooseLayout (s.screen sc).layoutsNow)) := by
  have hu : s.applyCommit sc =
      { s with
        screens := (s.setScreen sc (s.screen sc).committedNow).screens
        words := (s.setMailbox (.screen sc)
          ((s.mailbox (.screen sc)).commitEnded (s.screen sc))).words } := by
    rw [State.applyCommit_eq, State.setMailbox_eq]
    rfl
  have hy : (s.applyCommit sc).screen sc = (s.screen sc).committedNow := by
    rw [State.applyCommit_eq, State.screen_setMailbox, State.screen_setScreen_self]
  have hchoice : (s.applyCommit sc).chooseLayout ((s.applyCommit sc).screen sc).committed =
      s.chooseLayout (s.screen sc).layoutsNow := by
    rw [hy, hu]
    rfl
  rw [State.performLatch, hchoice]
  generalize s.chooseLayout (s.screen sc).layoutsNow = choice
  have hrep : (s.applyCommit sc).reportLayout sc choice =
      { s with
        screens := (s.setScreen sc (s.screen sc).committedNow).screens
        words := (s.setMailbox (.screen sc)
          ((s.mailbox (.screen sc)).commitEnded (s.screen sc))).words
        ring := (s.reportLayout sc choice).ring
        attention := (s.reportLayout sc choice).attention
        arb := (s.reportLayout sc choice).arb } := by
    have hown : (s.setScreen sc (s.screen sc).committedNow).screens[sc] =
        (s.screen sc).committedNow := State.screen_setScreen_self ..
    rw [hu, State.reportLayout_update s _ _ (by rw [hown]; rfl) (by rw [hown]; rfl),
      State.reportLayout_eq]
  rw [hrep]
  generalize hv : State.mk .. = v
  have hvy : v.screen sc = (s.screen sc).committedNow := by
    rw [← hv]
    exact State.screen_setScreen_self ..
  rw [State.install_retire (by rw [hvy]; exact hr), hvy]
  have hset : v.newSet (s.screen sc).committedNow choice = s.newSet (s.screen sc).committedNow choice :=
    State.newSet_congr (fun c => by rw [← hv]; rfl) rfl rfl choice
  rw [hset]
  generalize s.newSet (s.screen sc).committedNow choice = hs
  have hscreens : (v.setScreen sc ((s.screen sc).latched hs choice)).screens =
      (s.setScreen sc ((s.screen sc).latched hs choice)).screens := by
    have htwice := congrArg State.screens (State.setScreen_setScreen s sc
      (s.screen sc).committedNow ((s.screen sc).latched hs choice))
    rw [← hv]
    exact htwice
  show State.slotsBy { v with
    screens := (v.setScreen sc ((s.screen sc).latched hs choice)).screens } (latchTags sc (s.screen sc) hs) = _
  rw [hscreens, ← hv]
  rfl

@[simp] theorem State.mailbox_slotsBy (s : State) (f : CamId → Nat → Slot → Slot) (o : Owner) :
    (s.slotsBy f).mailbox o = s.mailbox o := rfl

/-- The latch of R90 in the terms of the spec: what a state is after it. -/
theorem State.latched_latchedWith {s : State} {sc : ScrId} {choice : LayoutChoice} {hs : HoldSet}
    (hchosen : Chosen s (s.screen sc).layoutsNow choice)
    (hmade : s.setMade (s.screen sc) choice hs) : Latched s (s.latchedWith sc choice hs) sc := by
  have hscreen : (s.latchedWith sc choice hs).screen sc = (s.screen sc).latched hs choice :=
    State.screen_setScreen_self ..
  unfold Latched
  dsimp only
  rw [hscreen]
  refine ⟨hchosen, hmade, rfl, State.slotsBecome_slotsBy s _, rfl, ?_, rfl⟩
  split
  · next hc =>
    have hrep : s.reportLayout sc choice = s := if_pos hc
    rw [State.latchedWith, hrep]
    exact ⟨rfl, rfl, rfl⟩
  · next hc =>
    have hrep : s.reportLayout sc choice = s.report .layoutChanged sc.val
        (detail (choiceCode (s.screen sc).choice) choice.code 0) ((s.screen sc).latchCount + 1) :=
      if_neg hc
    rw [State.latchedWith, hrep]
    exact ⟨rfl, rfl, rfl⟩

/-- A latch performed with the retiring set empty is the latch of R90. -/
theorem State.latched_performLatch {s : State} {sc : ScrId} (hr : (s.screen sc).retiring = none) :
    Latched s (s.performLatch sc) sc := by
  rw [State.performLatch_eq hr]
  exact State.latched_latchedWith (State.chosen_chooseLayout ..) (State.setMade_newSet ..)

/-! ### Latches that fall due (R87 to R89) -/

theorem State.latchDue_of_none {s : State} {sc : ScrId} (h : (s.screen sc).retiring = none) :
    s.latchDue sc = s.performLatch sc := by
  simp [State.latchDue, h]

theorem State.latchDue_of_some {s : State} {sc : ScrId} (h : (s.screen sc).retiring.isSome = true) :
    s.latchDue sc = s.setScreen sc { s.screen sc with owed := true } := by
  simp [State.latchDue, h]

theorem State.latched_latchDue {s : State} {sc : ScrId} (hr : (s.screen sc).retiring = none) :
    Latched s (s.latchDue sc) sc := by
  rw [State.latchDue_of_none hr]
  exact State.latched_performLatch hr

/-- A latch changes no beat held back at the upstream port. -/
theorem Latched.port {s t : State} {sc : ScrId} (h : Latched s t sc) : t.port = s.port := by
  unfold Latched at h
  dsimp only at h
  split at h
  · obtain ⟨-, -, -, -, -, -, ht⟩ := h
    rw [ht]
  · exact h.elim

/-- A timer of a screen runs out: its next value is set, and a latch falls due (R87, R88). -/
theorem State.runOut_screen (s : State) (x : ScrId) (cycle : Bool) :
    s.runOut (if cycle then .cycle x else .offset x) =
      (s.setScreen x (Claim.timerTaken (s.screen x) s.timebase cycle)).latchDue x := by
  cases cycle <;> rfl

theorem exec_screenTimer (s : State) (x : ScrId) (cycle : Bool) :
    exec (if cycle then .cycleTimerExpiry x else .offsetTimerExpiry x) s =
      .next (s.expire (if cycle then .cycle x else .offset x)) := by
  cases cycle <;> rfl

@[simp] theorem timerTaken_retiring (y : Screen) (now : Time) (cycle : Bool) :
    (Claim.timerTaken y now cycle).retiring = y.retiring := by cases cycle <;> rfl

theorem expiryLatches (s : State) (x : ScrId) (cycle : Bool) : Claim.ExpiryLatches s x cycle := by
  intro hquiet hr hdue
  have hl : Latched _ ((s.setScreen x (Claim.timerTaken (s.screen x) s.timebase cycle)).latchDue x) x :=
    State.latched_latchDue (by rw [State.screen_setScreen_self, timerTaken_retiring, hr])
  refine ⟨_, exec_screenTimer s x cycle, ?_⟩
  rw [State.expire_of_due hdue (by rw [State.runOut_screen, hl.port]; exact hquiet), State.runOut_screen]
  exact hl

theorem expiryOwed (s : State) (x : ScrId) (cycle : Bool) : Claim.ExpiryOwed s x cycle := by
  intro hquiet hr hdue
  have ho : (s.setScreen x (Claim.timerTaken (s.screen x) s.timebase cycle)).latchDue x =
      s.setScreen x { Claim.timerTaken (s.screen x) s.timebase cycle with owed := true } := by
    rw [State.latchDue_of_some (by rw [State.screen_setScreen_self, timerTaken_retiring, hr]),
      State.screen_setScreen_self, State.setScreen_setScreen]
  rw [exec_screenTimer, State.expire_of_due hdue (by rw [State.runOut_screen, ho]; exact hquiet),
    State.runOut_screen, ho]

/-- Settles O18: both timers come to the same latch, due once the timer has its next value. -/
theorem expiryPerformsLatch : Obligations.ExpiryPerformsLatch := ⟨expiryLatches, expiryOwed⟩

/-! ### The sync line (R87) -/

/-- A change of the level, with no beat held back where it acts. -/
theorem exec_syncLineChange {s : State} {x : ScrId} {level : Bool} (h : (s.screen x).sync ≠ level)
    (hquiet : (s.syncChange x level).port.held = []) :
    exec (.syncLineChange x level) s = .next (s.syncChange x level) := by
  show Host.Outcome.next _ = _
  rw [if_neg h, State.settle_of_empty hquiet]

/-- The screen at a new level of its sync line. -/
def Screen.atSync (y : Screen) (level : Bool) : Screen := { y with sync := level }

theorem State.syncChange_eq (s : State) (x : ScrId) (level : Bool) :
    s.syncChange x level =
      if (s.screen x).state ≠ .disabled ∧ (s.screen x).geom.mode = .sync ∧
          level ≠ (s.screen x).cfg.falling then
        if (s.screen x).offsetTimer.isSome then
          s.setScreen x { (s.screen x).atSync level with
            ignoredSyncs := (s.screen x).ignoredSyncs + 1 }
        else if (s.screen x).cfg.offsetTime = 0 then
          (s.setScreen x ((s.screen x).atSync level)).latchDue x
        else
          s.setScreen x { (s.screen x).atSync level with
            offsetTimer := some (s.timebase + (s.screen x).cfg.offsetTime.setWidth 32) }
      else s.setScreen x ((s.screen x).atSync level) := by
  have hsel : ((s.screen x).atSync level).enabled = true ∧ ((s.screen x).atSync level).geom.mode = .sync ∧
      ((s.screen x).atSync level).selects level = true ↔
      (s.screen x).state ≠ .disabled ∧ (s.screen x).geom.mode = .sync ∧
        level ≠ (s.screen x).cfg.falling := by
    simp [Screen.atSync, Screen.enabled, Screen.selects]
  have htime : timeAfter s.timebase (s.screen x).cfg.offsetTime.toNat =
      s.timebase + (s.screen x).cfg.offsetTime.setWidth 32 := by
    simp [timeAfter]
  rw [← htime, ← if_congr hsel rfl rfl]
  unfold State.syncChange
  simp only [State.setScreen_setScreen]
  rfl

/-- Settles O17: the four cases of R87 are the branches of a change of the sync line. -/
theorem syncEdgeHandled : Obligations.SyncEdgeHandled := by
  intro s x level hquiet hlevel y
  have hgive {t : State} (ht : s.syncChange x level = t) (hp : t.port.held = []) :
      exec (.syncLineChange x level) s = .next t := by
    rw [exec_syncLineChange hlevel (by rw [ht]; exact hp), ht]
  refine ⟨fun hno => ?_, fun hst hmode hedge hrun => ?_, fun hst hmode hedge hidle htime => ?_,
    fun hst hmode hedge hidle htime => ?_⟩
  · refine hgive ?_ hquiet
    rw [State.syncChange_eq, if_neg]
    · rfl
    · rintro ⟨h1, h2, h3⟩
      rcases hno with h | h | h
      · exact h1 h
      · exact h h2
      · exact h3 h
  · refine hgive ?_ hquiet
    rw [State.syncChange_eq, if_pos ⟨hst, hmode, hedge⟩, if_pos hrun]
    rfl
  · refine hgive ?_ hquiet
    rw [State.syncChange_eq, if_pos ⟨hst, hmode, hedge⟩, if_neg (by rw [hidle]; simp), if_neg htime]
    rfl
  · have hdue : s.syncChange x level = (s.setScreen x (y.atSync level)).latchDue x := by
      rw [State.syncChange_eq, if_pos ⟨hst, hmode, hedge⟩, if_neg (by rw [hidle]; simp), if_pos htime]
    have hy := State.screen_setScreen_self s x (y.atSync level)
    split
    · next hr =>
      refine hgive (hdue.trans ?_) hquiet
      rw [State.latchDue_of_some (by rw [hy]; exact hr), hy, State.setScreen_setScreen]
      rfl
    · next hr =>
      have hl : Latched _ ((s.setScreen x (y.atSync level)).latchDue x) x :=
        State.latched_latchDue (by rw [hy]; exact Option.not_isSome_iff_eq_none.mp hr)
      exact ⟨_, hgive hdue (by rw [hl.port]; exact hquiet), hl⟩

end Sys2Proof.Machine

/-!
ENABLE and COMMIT (R85, R98): the state at which a screen's request acts, the ranges that an ENABLE checks, and the
answers.
-/
namespace Sys2Proof.Machine

/-! ### The state at which a screen's request acts (R163) -/

/-- The state at which a screen's request acts: its beat is done and its word holds the request. -/
def State.asked (s : State) (p : PortTag) (x : ScrId) (code : Byte) (f : ReqFields) : State :=
  (s.writeDone p).setMailbox (.screen x) ((s.mailbox (.screen x)).take code f)

@[simp] theorem State.screen_asked (s : State) (p : PortTag) (x y : ScrId) (code : Byte)
    (f : ReqFields) : (s.asked p x code f).screen y = s.screen y := by simp [State.asked]

theorem State.request_screen {s : State} (h : s.quiet) (p : PortTag) (x : ScrId) {code : Byte}
    (hc : code ≠ 0) (f : ReqFields) :
    s.request p (.screen x) code f = (s.asked p x code f).screenRequest x code := by
  rw [State.request_eq h, State.takeRequest, if_neg hc]
  rfl

theorem exec_enable {s : State} (h : s.quiet) (p : PortTag) (x : ScrId) (f : ReqFields) :
    exec (.enable p x f) s = .next ((s.asked p x 1 f).takeEnable x) :=
  congrArg Host.Outcome.next (State.request_screen h p x (by decide) f)

theorem exec_commit {s : State} (h : s.quiet) (p : PortTag) (x : ScrId) (f : ReqFields) :
    exec (.commit p x f) s = .next ((s.asked p x 3 f).takeCommit x) :=
  congrArg Host.Outcome.next (State.request_screen h p x (by decide) f)

theorem State.mailbox_asked_self (s : State) (p : PortTag) (x : ScrId) (code : Byte) (f : ReqFields) :
    (s.asked p x code f).mailbox (.screen x) = (s.mailbox (.screen x)).take code f :=
  State.mailbox_setMailbox_self ..

theorem State.mailbox_asked_of_ne (s : State) (p : PortTag) (x : ScrId) (code : Byte) (f : ReqFields)
    {q : Owner} (h : q ≠ .screen x) : (s.asked p x code f).mailbox q = s.mailbox q :=
  State.mailbox_setMailbox_of_ne _ _ h

/-- The request answered at once at a state that differs from the one it acts at in the screens alone. -/
theorem State.answered_screens {s : State} (p : PortTag) (x : ScrId) (code : Byte) (f : ReqFields)
    (r : Result) (screens : Vector Screen 3) :
    Answered s (State.answer { s.asked p x code f with screens := screens } (.screen x) r)
      p (.screen x) code f r := by
  refine ⟨?_, ?_, fun q hq => ?_⟩
  · rw [State.answer_eq]
    rfl
  · rw [State.mailbox_answer_self]
    exact congrArg (·.answer r) (State.mailbox_asked_self s p x code f)
  · rw [State.mailbox_answer_of_ne _ _ hq]
    exact State.mailbox_asked_of_ne s p x code f hq

theorem State.setMailbox_setMailbox (s : State) (o : Owner) (m n : Mailbox) :
    (s.setMailbox o m).setMailbox o n = s.setMailbox o n := by
  cases o <;> simp [State.setMailbox]

/-! ### COMMIT (R85, R165) -/

/-- Settles O24: at once, pending, or BUSY, by the screen's state and its pending COMMIT. -/
theorem commitByState : Obligations.CommitByState := by
  intro s p x f hquiet m
  refine ⟨fun hst => ?_, fun hst hnone => ?_, fun hst hsome => ?_⟩
  · have ht : (s.asked p x 3 f).takeCommit x = State.answer { s.asked p x 3 f with
        screens := (s.setScreen x { s.screen x with committed := (s.screen x).cfg.staged }).screens }
        (.screen x) .done := by
      unfold State.takeCommit
      simp only [State.screen_asked, if_neg hst]
      rfl
    refine ⟨_, exec_commit hquiet p x f, ?_, ?_⟩
    · rw [ht]
      exact State.answered_screens ..
    · rw [ht, State.answer_eq]
      rfl
  · have ht : (s.asked p x 3 f).takeCommit x =
        ((s.asked p x 3 f).setScreen x { s.screen x with pendingCommit := some m.tag }).answerOpen
          (.screen x) := by
      unfold State.takeCommit
      simp only [State.screen_asked, if_pos hst, hnone, State.mailbox_asked_self]
      rfl
    have hm : ((s.asked p x 3 f).takeCommit x).mailbox (.screen x) = m.opened := by
      rw [ht, State.answerOpen, State.mailbox_setMailbox_self, State.mailbox_setScreen,
        State.mailbox_asked_self]
    refine ⟨_, exec_commit hquiet p x f, hm, ?_⟩
    rw [hm, ht, State.answerOpen, State.mailbox_setScreen, State.mailbox_asked_self]
    exact State.setMailbox_setMailbox ((s.writeDone p).setScreen x
      { s.screen x with pendingCommit := some m.tag }) (.screen x) m m.opened
  · have ht : (s.asked p x 3 f).takeCommit x = State.answer { s.asked p x 3 f with
        screens := s.screens } (.screen x) .busy := by
      unfold State.takeCommit
      simp only [State.screen_asked, if_pos hst, if_pos hsome]
      rfl
    refine ⟨_, exec_commit hquiet p x f, ?_, ?_⟩
    · rw [ht]
      exact State.answered_screens ..
    · rw [ht, State.answer_eq]
      rfl

/-! ### The ranges that an ENABLE checks (R81, R98, R152) -/

/-- A range in the terms of the claims: its base and its size. -/
def Range.span (r : Range) : Claim.Span := (r.base, r.size)

theorem Range.meets_iff_share (r q : Range) : r.meets q = true ↔ Claim.share r.span q.span := by
  simp only [Range.meets, Claim.share, Range.span, Bool.and_eq_true, decide_eq_true_eq]
  constructor
  · rintro ⟨⟨⟨h1, h2⟩, h3⟩, h4⟩
    exact ⟨max r.base q.base, ⟨by omega, by omega⟩, by omega, by omega⟩
  · rintro ⟨a, ⟨h1, h2⟩, h3, h4⟩
    omega

theorem ScrGeom.span_range (g : ScrGeom) : g.range.span = Claim.view g := by
  simp [Range.span, ScrGeom.range, ScrGeom.window, ScrGeom.bytes, roundUp, Claim.view, Claim.pages]

theorem CamGeom.span_intakeRange (g : CamGeom) : g.intakeRange.span = Claim.window g := by
  simp [Range.span, CamGeom.intakeRange, CamGeom.stride, CamGeom.frameBytes, roundUp, Claim.window,
    Claim.pages]

theorem CamGeom.span_slotRange (g : CamGeom) : g.slotRange.span = Claim.area g := by
  simp [Range.span, CamGeom.slotRange, CamGeom.slotArea, CamGeom.stride, CamGeom.frameBytes, roundUp,
    Claim.area, Claim.pages]

theorem State.span_controlRange (s : State) : s.controlRange.span = Claim.control s := by
  simp [Range.span, State.controlRange, State.controlBase, Claim.control]

theorem State.meets_scrRanges (s : State) (x : ScrId) (r : Range) :
    (∃ q ∈ s.scrRanges x, r.meets q = true) ↔ Claim.meetsShown s r.span x := by
  unfold State.scrRanges Claim.meetsShown Screen.enabled
  dsimp only
  by_cases h : (s.screen x).state = .disabled
  · simp [h]
  · simp [h, Range.meets_iff_share, ScrGeom.span_range]

theorem State.meets_camRanges (s : State) (c : CamId) (r : Range) :
    ((s.cam c).armed = true ∧ ∃ q ∈ s.camRanges c, r.meets q = true) ↔
      Claim.meetsArmed s r.span c := by
  unfold State.camRanges Claim.meetsArmed Camera.armed
  dsimp only
  by_cases h : (s.cam c).chan = .disarmed
  · simp [h]
  · simp [h, Range.meets_iff_share, CamGeom.span_intakeRange, CamGeom.span_slotRange]

/-- The overlap test of an ENABLE is that of R152. -/
theorem State.enableOverlaps_iff (s : State) (x : ScrId) (g : ScrGeom) :
    s.enableOverlaps x g = true ↔ Claim.enableClashes s x g := by
  have hscr : ((allScreens.filter (· ≠ x)).flatMap s.scrRanges).any g.range.meets = true ↔
      ∃ y, y ≠ x ∧ Claim.meetsShown s (Claim.view g) y := by
    simp only [List.any_flatMap, List.any_eq_true, List.mem_filter, mem_allScreens, true_and,
      decide_eq_true_eq, State.meets_scrRanges, ScrGeom.span_range]
  have hcam : ((allCams.filter fun c => (s.cam c).armed).flatMap s.camRanges).any g.range.meets = true ↔
      ∃ e, Claim.meetsArmed s (Claim.view g) e := by
    simp only [List.any_flatMap, List.any_eq_true, List.mem_filter, mem_allCams, true_and,
      State.meets_camRanges, ScrGeom.span_range]
  have hctl : g.range.meets s.controlRange = true ↔ Claim.share (Claim.view g) (Claim.control s) := by
    rw [Range.meets_iff_share, ScrGeom.span_range, State.span_controlRange]
  have hhigh : g.range.tooHigh = true ↔ 2 ^ 40 < (Claim.view g).1 + (Claim.view g).2 := by
    simp only [← ScrGeom.span_range, Range.tooHigh, Range.span, decide_eq_true_eq]
  unfold State.enableOverlaps Claim.enableClashes
  dsimp only
  rw [List.any_append, List.any_append, Bool.or_eq_true, Bool.or_eq_true, Bool.or_eq_true, hscr, hcam,
    List.any_cons, List.any_nil, Bool.or_false, hctl, hhigh, or_comm,
    or_assoc, or_assoc]

theorem ScrGeom.valid_iff (g : ScrGeom) : g.valid = true ↔ Claim.scrFits g := by
  simp [ScrGeom.valid, Claim.scrFits, and_assoc]

/-- The checks of an ENABLE pass (R98, R152). -/
theorem State.enableResult_done {s : State} {x : ScrId} (hst : (s.screen x).state = .disabled)
    (hfits : Claim.scrFits (s.screen x).cfg.geom)
    (hclash : ¬Claim.enableClashes s x (s.screen x).cfg.geom) (ha : (s.screen x).active = none)
    (hr : (s.screen x).retiring = none) : s.enableResult x = .done := by
  have hover : s.enableOverlaps x (s.screen x).cfg.geom = false :=
    Bool.eq_false_iff.mpr fun h => hclash ((State.enableOverlaps_iff ..).mp h)
  simp [State.enableResult, Screen.enabled, hst, (ScrGeom.valid_iff _).mpr hfits, hover, ha, hr]

theorem ScrSettings.mode_cycle_iff (c : ScrSettings) : c.mode = .cycle ↔ c.latchMode = 2 := by
  unfold ScrSettings.mode
  split
  · next h => simp [h]
  · split <;> simp_all

theorem Screen.enable_eq (y : Screen) (now : Time) :
    y.enable now =
      { y with
        geom := y.cfg.geom
        state := .waitLatch
        choice := none
        lastLine := none
        latchCount := 0
        ignoredSyncs := 0
        owed := false
        offsetTimer := none
        cycleTimer :=
          if y.cfg.latchMode = 2 then some (now + BitVec.ofNat 32 y.cfg.periodUsed) else none
        misuse := false
        misuseCount := 0 } := by
  rw [Screen.enable, if_congr y.cfg.mode_cycle_iff rfl rfl]
  rfl

/-- The checks read settings, ranges and sets alone, which the request's word and beat leave. -/
theorem State.enableResult_asked (s : State) (p : PortTag) (x y : ScrId) (code : Byte) (f : ReqFields) :
    (s.asked p x code f).enableResult y = s.enableResult y := rfl

/-- Settles O22: the settings pass every check of an ENABLE, so its result is DONE, and the screen is as R98 says. -/
theorem enableLocksGeometry : Obligations.EnableLocksGeometry := by
  intro s p x f hquiet hst hfits hclash ha hr
  have hdone : (s.asked p x 1 f).enableResult x = .done := by
    rw [State.enableResult_asked]
    exact State.enableResult_done hst hfits hclash ha hr
  have ht : (s.asked p x 1 f).takeEnable x = State.answer { s.asked p x 1 f with
      screens := (s.setScreen x ((s.screen x).enable s.timebase)).screens } (.screen x) .done := by
    rw [State.takeEnable, hdone, if_pos rfl, State.screen_asked]
    rfl
  have hscreens : ((s.asked p x 1 f).takeEnable x).screens =
      (s.setScreen x ((s.screen x).enable s.timebase)).screens := by
    rw [ht, State.answer_eq]
  refine ⟨_, exec_enable hquiet p x f, ?_, ?_, fun y hy => ?_, ?_⟩
  · rw [ht]
    exact State.answered_screens ..
  · rw [← Screen.enable_eq, State.screen, hscreens]
    exact State.screen_setScreen_self ..
  · rw [State.screen, hscreens]
    exact State.screen_setScreen_of_ne s _ hy
  · rw [ht, State.answer_eq]
    rfl

end Sys2Proof.Machine

/-!
Composition and forming (R104, R115, R116): the bytes of a response, the fetches handed, and the entries composed
under a hold set.
-/
namespace Sys2Proof.Machine

/-! ### The bytes of a response (R104, R116, R119) -/

/-- An item that holds its macropixel already, a colour or a formed source, shows it. -/
theorem PlanItem.byte_pixel_of_settled {it : PlanItem} (h : it.beat = none) (unformed : Macropixel)
    (d : Beat) (k : Nat) : (it.pixel unformed).byte k = it.shows d k := by
  cases it with
  | colour m => rfl
  | source src formed =>
    cases formed with
    | none => simp [PlanItem.beat] at h
    | some m => rfl

/-- A source item in the beat that returns takes its macropixel from it, its lumas exchanged where R112 says so. -/
theorem PlanItem.byte_pixel_fill {f : Fetch} {src : Source} (hc : src.cam = f.cam) (hs : src.slot = f.slot)
    (ha : src.addr / 64 * 64 = f.addr) (unformed : Macropixel) (d : Beat) {k : Nat} (hk : k < 4) :
    ((PlanItem.fill f d (.source src none)).pixel unformed).byte k =
      (PlanItem.source src none).shows d k := by
  rw [PlanItem.fill, if_pos ⟨hc, hs, ha⟩, PlanItem.pixel, PlanItem.shows, Macropixel.swapped]
  cases src.swap with
  | false => interval_cases k <;> rfl
  | true => interval_cases k <;> rfl

/-- A response beat is shown byte by byte: macropixel `i / 4` of the plan, byte `i % 4` of it. -/
theorem planResponse_eq_planShows {g : PlanItem → PlanItem} {plan : List PlanItem} {unformed : Macropixel}
    {d : Beat} (hlen : plan.length = 16)
    (hg : ∀ it ∈ plan, ∀ k < 4, ((g it).pixel unformed).byte k = it.shows d k) (fallback : Macropixel) :
    planResponse unformed (plan.map g) = planShows d plan fallback := by
  refine Vector.ext fun i hi => ?_
  have hp : i / 4 < plan.length := by omega
  simp only [planResponse, beatOfMacropixels, planShows, Vector.getElem_ofFn]
  rw [List.getD_eq_getElem _ _ (by simpa using hp), List.getD_eq_getElem _ _ hp]
  simp only [List.getElem_map]
  exact hg _ (List.getElem_mem hp) _ (Nat.mod_lt _ (by decide))

theorem planShows_of_settled {plan : List PlanItem} (hlen : plan.length = 16)
    (h : ∀ it ∈ plan, it.beat = none) (unformed fallback : Macropixel) (d : Beat) :
    planResponse unformed plan = planShows d plan fallback := by
  have hid := planResponse_eq_planShows (g := id) (unformed := unformed) (d := d) hlen
    (fun it hit k _ => PlanItem.byte_pixel_of_settled (h it hit) unformed d k) fallback
  rwa [List.map_id] at hid

theorem planResponse_fill {f : Fetch} {plan : List PlanItem} (h : Claim.completes f plan)
    (unformed : Macropixel) (d : Beat) :
    planResponse unformed (plan.map (PlanItem.fill f d)) = planShows d plan ⟨0, 0, 0, 0⟩ := by
  obtain ⟨hlen, hall⟩ := h
  refine planResponse_eq_planShows hlen (fun it hit k hk => ?_) _
  have hit := hall it hit
  match it with
  | .colour m => rfl
  | .source src (some m) => rfl
  | .source src none =>
    obtain ⟨hc, hs, ha, -⟩ := hit
    exact PlanItem.byte_pixel_fill hc hs ha unformed d hk

/-! ### Plans (R105, R115) -/

theorem State.length_plan (s : State) (g : ScrGeom) (hs : HoldSet) (o : Nat) :
    (s.plan g hs o).length = 16 := by
  unfold State.plan
  dsimp only
  split <;> simp

theorem distinct_nil_iff {α : Type} [DecidableEq α] (xs : List α) : distinct xs [] = [] ↔ xs = [] := by
  cases xs <;> simp [distinct]

/-- No source beat is named where no item is a source still to be formed. -/
theorem planBeats_eq_nil_iff (plan : List PlanItem) :
    planBeats plan = [] ↔ ∀ it ∈ plan, it.beat = none := by
  rw [planBeats, distinct_nil_iff, List.filterMap_eq_nil_iff]

/-! ### Fetches handed (R115) -/

theorem State.handFetches_eq (s : State) (fs : List Fetch) :
    s.handFetches fs =
      { s with arb := (s.handFetches fs).arb, fetchWait := (s.handFetches fs).fetchWait } := by
  induction fs generalizing s with
  | nil => rfl
  | cons f rest ih =>
    rw [State.handFetches]
    split
    · rw [ih]
      rfl
    · rfl

/-- Nothing is handed where the list is empty or the queue has no place. -/
theorem State.fetchesSent_kept {s : State} {fs : List Fetch}
    (h : fs.take (16 - (s.queue .compose).length) = []) :
    FetchesSent s { s with fetchWait := fs } fs := by
  have hdrop := List.take_append_drop (16 - (s.queue .compose).length) fs
  rw [h, List.nil_append] at hdrop
  unfold FetchesSent
  dsimp only
  rw [h, hdrop]
  exact ⟨(List.append_nil _).symm, rfl, ⟨fun _ _ => rfl, rfl⟩, rfl⟩

/-- Fetches are handed in order as far as the queue has places (R115). -/
theorem State.fetchesSent_handFetches (s : State) (fs : List Fetch) :
    FetchesSent s (s.handFetches fs) fs := by
  induction fs generalizing s with
  | nil => exact State.fetchesSent_kept List.take_nil
  | cons f rest ih =>
    rw [State.handFetches]
    split
    · next hroom =>
      obtain ⟨hq, hh, ⟨hother, hlast⟩, hwait⟩ := ih (s.handFetch f)
      have hlt : (s.queue .compose).length < 16 := by simpa [State.room] using hroom
      have hqueue (q : Queue) : (s.handFetch f).queue q =
          if q = .compose then s.queue .compose ++ [⟨s.arb.handed, f.addr, .read (.compose f)⟩]
          else s.queue q := State.queue_hand ..
      have hlen : 16 - (s.queue .compose).length =
          16 - ((s.handFetch f).queue .compose).length + 1 := by
        rw [hqueue, if_pos rfl, List.length_append, List.length_singleton]
        omega
      unfold FetchesSent
      dsimp only
      rw [hlen, List.take_succ_cons, List.drop_succ_cons, List.mapIdx_cons]
      refine ⟨?_, ?_, ⟨fun q hne => ?_, hlast⟩, hwait⟩
      · have hnext : (s.handFetch f).arb.handed = s.arb.handed + 1 := rfl
        rw [hq, hqueue, if_pos rfl, List.append_assoc, hnext]
        simp only [Nat.add_assoc, Nat.add_comm 1]
        rfl
      · rw [hh, List.length_cons]
        show s.arb.handed + 1 + _ = _
        omega
      · rw [hother q hne, hqueue, if_neg hne]
    · next hroom =>
      have hn : 16 - (s.queue .compose).length = 0 := by
        simp [State.room] at hroom
        omega
      exact State.fetchesSent_kept (by rw [hn, List.take_zero])

/-! ### Entries composed (R104, R115, R118) -/

theorem State.composed_composeEntry (s : State) (x : ScrId) (hs : HoldSet) (e : Entry) :
    Composed s (s.composeEntry x hs e) x hs e := by
  unfold Composed State.composeEntry
  dsimp only
  by_cases hb : planBeats (s.plan (s.screen x).geom hs e.offset) = []
  · rw [if_pos (by rw [hb]; rfl), if_pos (by rw [hb]; rfl),
      planShows_of_settled (State.length_plan ..) ((planBeats_eq_nil_iff _).mp hb) hs.background hs.background
        (Vector.replicate 64 0)]
    rfl
  · rw [if_neg (by simpa using hb), if_neg (by simpa using hb), List.length_map]
    refine ⟨?_, State.fetchesSent_handFetches .., ?_⟩
    · rw [State.handFetches_eq]
      rfl
    · rw [State.handFetches_eq]
      rfl

theorem State.composedAll_composeEntries (s : State) (x : ScrId) (hs : HoldSet) (es : List Entry) :
    ComposedAll x hs es s (s.composeEntries x hs es) := by
  induction es generalizing s with
  | nil => rfl
  | cons e rest ih => exact ⟨_, State.composed_composeEntry s x hs e, ih _⟩

/-- The entries that wait are composed in table order under the active set (R118). -/
theorem State.composedAll_composeWaiting {s : State} {x : ScrId} {hs : HoldSet}
    (h : (s.screen x).active = some hs) :
    ComposedAll x hs (waitingOf (s.screen x).table) s (s.composeWaiting x) := by
  rw [State.composeWaiting, h]
  exact State.composedAll_composeEntries ..

end Sys2Proof.Machine

/-!
A composer fetch that returns (R89, R95, R99, R116, R118): the entry found and formed, the set released, and the owed
latch with the entries that waited for it.
-/
namespace Sys2Proof.Machine

/-! ### One entry of a table (R103) -/

section
variable {table pre post : List Entry} {e : Entry} {id : Nat}

theorem find_entry (ht : table = pre ++ e :: post) (he : e.id = id) (hne : ∀ q ∈ pre ++ post, q.id ≠ id) :
    table.find? (·.id == id) = some e := by
  refine List.find?_eq_some_iff_append.mpr ⟨by simp [he], pre, post, ht, fun q hq => ?_⟩
  simpa using hne q (List.mem_append_left _ hq)

theorem map_entry (g : Entry → Entry) (he : e.id = id) (hne : ∀ q ∈ pre ++ post, q.id ≠ id) :
    (pre ++ e :: post).map (fun q => if q.id = id then g q else q) = pre ++ g e :: post := by
  have hkeep (l : List Entry) (hl : ∀ q ∈ l, q.id ≠ id) :
      l.map (fun q => if q.id = id then g q else q) = l := by
    refine (List.map_congr_left fun q hq => ?_).trans (List.map_id l)
    exact if_neg (hl q hq)
  rw [List.map_append, List.map_cons, if_pos he, hkeep pre fun q hq => hne q (List.mem_append_left _ hq),
    hkeep post fun q hq => hne q (List.mem_append_right _ hq)]

theorem filter_entry (he : e.id = id) (hne : ∀ q ∈ pre ++ post, q.id ≠ id) :
    (pre ++ e :: post).filter (·.id != id) = pre ++ post := by
  have hkeep (l : List Entry) (hl : ∀ q ∈ l, q.id ≠ id) : l.filter (·.id != id) = l :=
    List.filter_eq_self.mpr fun q hq => by simpa using hl q hq
  rw [List.filter_append, List.filter_cons, if_neg (by simp [he]),
    hkeep pre fun q hq => hne q (List.mem_append_left _ hq),
    hkeep post fun q hq => hne q (List.mem_append_right _ hq)]

end

/-- Retiring entries neither wakes nor puts to wait any of them. -/
theorem waitingOf_map_retired (l : List Entry) : waitingOf (l.map Entry.retired) = waitingOf l := by
  have hw (e : Entry) : e.retired.state = .waiting ↔ e.state = .waiting := by
    obtain ⟨id, st, rp, o, state⟩ := e
    match state with
    | .waiting => exact Iff.rfl
    | .fetching .active p n => simp [Entry.retired]
    | .fetching .retiring p n => simp [Entry.retired]
  have hk (e : Entry) (h : e.state = .waiting) : e.retired = e := by
    rw [Entry.retired, h]
  induction l with
  | nil => rfl
  | cons e rest ih =>
    unfold waitingOf at ih ⊢
    by_cases h : e.state = .waiting
    · simp [h, hk e h, ih]
    · simp [h, hw e, ih]

/-! ### Beats held back (R149) -/

@[simp] theorem State.held_composeEntry (s : State) (x : ScrId) (hs : HoldSet) (e : Entry) :
    (s.composeEntry x hs e).port.held = s.port.held := by
  unfold State.composeEntry
  dsimp only
  split
  · rfl
  · rw [State.handFetches_eq]
    rfl

@[simp] theorem State.held_composeEntries (s : State) (x : ScrId) (hs : HoldSet) (es : List Entry) :
    (s.composeEntries x hs es).port.held = s.port.held := by
  induction es generalizing s with
  | nil => rfl
  | cons e rest ih => rw [State.composeEntries, ih, State.held_composeEntry]

@[simp] theorem State.held_composeWaiting (s : State) (x : ScrId) :
    (s.composeWaiting x).port.held = s.port.held := by
  unfold State.composeWaiting
  dsimp only
  split
  · exact State.held_composeEntries ..
  · rfl

/-! ### The return of a fetch (R116) -/

section
variable {s : State} {f : Fetch} {a : Nat} {d : Beat} {rest : List DramRead} {pre post : List Entry}
  {e : Entry} {r : SetRole} {plan : List PlanItem}

theorem exec_composerFetchReturn {t : State} (h : Claim.fetched s f a d rest pre post e)
    (ht : State.fetchReturn { s with reads := rest } f d = t) (hheld : t.port.held = []) :
    exec .composerFetchReturn s = .next t := by
  obtain ⟨-, hreads, -⟩ := h
  have hret : s.composeReturn = t := by
    rw [State.composeReturn, hreads, State.popRead, hreads]
    exact ht
  show Host.Outcome.next s.composeReturn.settle = _
  rw [hret, State.settle_of_empty hheld]

/-- The fetch finds its entry by the number, forms the items in its beat, and is the last one or not (R116). The
macropixel `bg` stands for items that no fetch has formed. -/
theorem fetchReturn_entry {n : Nat} (h : Claim.fetched s f a d rest pre post e)
    (hst : e.state = .fetching r plan n) :
    ∃ bg, State.fetchReturn { s with reads := rest } f d =
      if n ≤ 1 then
        ((State.setScreen { s with reads := rest } f.screen ((s.screen f.screen).removeEntry e.id)).formRead
          e.resp (planResponse bg (plan.map (PlanItem.fill f d)))).releaseAfter f.screen r
      else
        State.setScreen { s with reads := rest } f.screen ((s.screen f.screen).modEntry e.id fun q =>
          { q with state := .fetching r (plan.map (PlanItem.fill f d)) (n - 1) }) := by
  obtain ⟨-, -, htable, hid, hne⟩ := h
  have hx : State.screen { s with reads := rest } f.screen = s.screen f.screen := rfl
  rw [State.fetchReturn, hx]
  dsimp only
  rw [find_entry htable hid hne]
  dsimp only
  rw [hst]
  exact ⟨_, rfl⟩

theorem fetchNotLast (n : Nat) : Claim.FetchNotLast s f a d rest pre post e r plan n := by
  intro h hst
  refine exec_composerFetchReturn h ?_ h.1
  obtain ⟨bg, hret⟩ := fetchReturn_entry h hst
  rw [hret, if_neg (by omega)]
  obtain ⟨-, -, htable, hid, hne⟩ := h
  have hmod := map_entry
    (fun q => { q with state := .fetching r (plan.map (PlanItem.fill f d)) (n + 1) }) hid hne
  rw [hid] at hmod
  rw [Screen.modEntry, htable, show n + 2 - 1 = n + 1 from rfl, hid]
  exact congrArg (fun l => State.setScreen { s with reads := rest } f.screen
    { s.screen f.screen with table := l }) hmod

/-- The last fetch of an entry forms its response and removes the entry; then the set it was under may go. -/
theorem fetchReturn_last (h : Claim.fetched s f a d rest pre post e) (hst : e.state = .fetching r plan 1)
    (hplan : Claim.completes f plan) :
    State.fetchReturn { s with reads := rest } f d =
      (Claim.answered s f d rest pre post e plan).releaseAfter f.screen r := by
  obtain ⟨bg, hret⟩ := fetchReturn_entry h hst
  rw [hret, if_pos le_rfl, planResponse_fill hplan]
  obtain ⟨-, -, htable, hid, hne⟩ := h
  rw [Screen.removeEntry, htable, hid, filter_entry hid hne]
  rfl

theorem answered_screen (s : State) (f : Fetch) (d : Beat) (rest : List DramRead) (pre post : List Entry)
    (e : Entry) (plan : List PlanItem) :
    (Claim.answered s f d rest pre post e plan).screen f.screen =
      { s.screen f.screen with table := pre ++ post } := State.screen_setScreen_self ..

theorem held_answered (h : Claim.fetched s f a d rest pre post e) :
    (Claim.answered s f d rest pre post e plan).port.held = [] := h.1

theorem State.releaseAfter_of_inFlight {s : State} {x : ScrId} (h : (s.screen x).inFlight r = true) :
    s.releaseAfter x r = s := if_pos h

theorem State.releaseAfter_retiring {s : State} {x : ScrId}
    (h : ¬ (s.screen x).inFlight .retiring = true) :
    s.releaseAfter x .retiring = s.releaseRetiring x := if_neg h

theorem State.releaseAfter_active {s : State} {x : ScrId} (h : ¬ (s.screen x).inFlight .active = true) :
    s.releaseAfter x .active =
      if (s.screen x).state = .disabled then s.dropSet x .active else s := if_neg h

theorem fetchLast : Claim.FetchLast s f a d rest pre post e r plan := by
  intro h hst hplan hkeep
  refine exec_composerFetchReturn h ?_ (held_answered h)
  rw [fetchReturn_last h hst hplan]
  by_cases hin : ((Claim.answered s f d rest pre post e plan).screen f.screen).inFlight r = true
  · exact State.releaseAfter_of_inFlight hin
  · rcases hkeep with ⟨q, hq, hunder⟩ | ⟨rfl, hstate⟩
    · refine absurd (List.any_eq_true.mpr ⟨q, ?_, hunder⟩) hin
      rwa [answered_screen]
    · rw [State.releaseAfter_active hin, answered_screen, if_neg hstate]

/-- No entry is in flight under the set of a role. -/
theorem not_inFlight {y : Screen} (h : ∀ q ∈ y.table, q.under r = false) : ¬ y.inFlight r = true := by
  rw [Screen.inFlight, List.any_eq_true]
  rintro ⟨q, hq, hunder⟩
  exact Bool.false_ne_true ((h q hq).symm.trans hunder)

theorem dropSet_eq_released {u : State} {x : ScrId} {hs : HoldSet} (h : (u.screen x).setOf r = some hs) :
    u.dropSet x r = Claim.released u x r hs := by
  rw [State.dropSet_of_some h]
  cases r <;> rfl

theorem released_screen (u : State) (x : ScrId) (r : SetRole) (hs : HoldSet) :
    (Claim.released u x r hs).screen x = (u.screen x).withSet r none := by
  cases r <;> exact State.screen_setScreen_self ..

theorem fetchReleasesSet (hs : HoldSet) : Claim.FetchReleasesSet s f a d rest pre post e r plan hs := by
  intro h hst hplan hnone howed hset
  refine exec_composerFetchReturn h ?_ (held_answered h)
  have hrole : ((Claim.answered s f d rest pre post e plan).screen f.screen).setOf r = some hs := by
    rw [answered_screen]
    rcases hset with ⟨rfl, hr⟩ | ⟨rfl, hr, -⟩ <;> exact hr
  have hout : ¬ ((Claim.answered s f d rest pre post e plan).screen f.screen).inFlight r = true :=
    not_inFlight (by rwa [answered_screen])
  rw [fetchReturn_last h hst hplan]
  rcases hset with ⟨rfl, -⟩ | ⟨rfl, -, hdis⟩
  · rw [State.releaseAfter_retiring hout, State.releaseRetiring, dropSet_eq_released hrole, State.performOwed,
      released_screen, answered_screen]
    exact if_neg (by simp [Screen.withSet, howed])
  · rw [State.releaseAfter_active hout, answered_screen, if_pos hdis, dropSet_eq_released hrole]

/-- The state at which the owed latch is performed: the retiring set released, the latch no longer owed. -/
def State.atOwed (s : State) (f : Fetch) (d : Beat) (rest : List DramRead) (pre post : List Entry)
    (e : Entry) (plan : List PlanItem) (hs : HoldSet) : State :=
  let u := Claim.released (Claim.answered s f d rest pre post e plan) f.screen .retiring hs
  u.setScreen f.screen { u.screen f.screen with owed := false }

theorem atOwed_screen (hs : HoldSet) :
    (s.atOwed f d rest pre post e plan hs).screen f.screen =
      { s.screen f.screen with table := pre ++ post, retiring := none, owed := false } := by
  rw [State.atOwed]
  dsimp only
  rw [State.screen_setScreen_self, released_screen, answered_screen]
  rfl

theorem atOwed_port (hs : HoldSet) :
    (s.atOwed f d rest pre post e plan hs).port = (Claim.answered s f d rest pre post e plan).port := rfl

/-- The last fetch under the retiring set with a latch owed: the latch, then the entries that waited. -/
theorem fetchReturn_owed {hs : HoldSet} (h : Claim.fetched s f a d rest pre post e)
    (hst : e.state = .fetching .retiring plan 1) (hplan : Claim.completes f plan)
    (hnone : ∀ q ∈ pre ++ post, q.under .retiring = false) (howed : (s.screen f.screen).owed = true)
    (hset : (s.screen f.screen).retiring = some hs) :
    State.fetchReturn { s with reads := rest } f d =
      ((s.atOwed f d rest pre post e plan hs).performLatch f.screen).composeWaiting f.screen := by
  have hrole : ((Claim.answered s f d rest pre post e plan).screen f.screen).setOf .retiring = some hs := by
    rw [answered_screen]
    exact hset
  have hout : ¬ ((Claim.answered s f d rest pre post e plan).screen f.screen).inFlight .retiring = true :=
    not_inFlight (by rwa [answered_screen])
  rw [fetchReturn_last h hst hplan, State.releaseAfter_retiring hout, State.releaseRetiring,
    dropSet_eq_released hrole, State.performOwed, released_screen, answered_screen]
  dsimp only
  rw [if_pos (by simpa [Screen.withSet] using howed), State.atOwed]
  dsimp only
  rw [released_screen, answered_screen]

theorem waitingOf_latched (y : Screen) (hs : HoldSet) (choice : LayoutChoice) :
    waitingOf (y.latched hs choice).table = waitingOf y.table := by
  unfold Screen.latched
  dsimp only
  split
  · exact waitingOf_map_retired _
  · rfl

/-- After a latch the screen has an active set, and the entries that wait are the ones that waited. -/
theorem State.screen_performLatch {s : State} {x : ScrId} (hr : (s.screen x).retiring = none) :
    ∃ hs choice, (s.performLatch x).screen x = (s.screen x).latched hs choice :=
  ⟨_, _, by
    rw [State.performLatch_eq hr]
    exact State.screen_setScreen_self ..⟩

/-- `State.latched_performLatch` with the state named: `Latched` of a latch written out would be computed. -/
theorem State.latched_of_performLatch {s v : State} {x : ScrId} (hr : (s.screen x).retiring = none)
    (hv : s.performLatch x = v) : Latched s v x := by
  rw [← hv]
  exact State.latched_performLatch hr

/-- What a latch leaves for the reads of its screen: an active set, and the entries that waited. -/
theorem State.performLatch_waiting {s v : State} {x : ScrId} (hr : (s.screen x).retiring = none)
    (hv : s.performLatch x = v) :
    ∃ hs, (v.screen x).active = some hs ∧
      waitingOf (v.screen x).table = waitingOf (s.screen x).table := by
  obtain ⟨hs, choice, hscreen⟩ := State.screen_performLatch hr
  rw [hv] at hscreen
  exact ⟨hs, congrArg Screen.active hscreen, by rw [hscreen, waitingOf_latched]⟩

theorem fetchComposesWaiting (hs : HoldSet) :
    Claim.FetchComposesWaiting s f a d rest pre post e plan hs := by
  intro h hst hplan hnone howed hset
  have hscreen := atOwed_screen (s := s) (f := f) (d := d) (rest := rest) (pre := pre) (post := post)
    (e := e) (plan := plan) hs
  have hr : ((s.atOwed f d rest pre post e plan hs).screen f.screen).retiring = none := by rw [hscreen]
  have hret := fetchReturn_owed h hst hplan hnone howed hset
  obtain ⟨v, hv⟩ : ∃ v, (s.atOwed f d rest pre post e plan hs).performLatch f.screen = v := ⟨_, rfl⟩
  obtain ⟨hs', hactive, hwait⟩ := State.performLatch_waiting hr hv
  have hlatch : Latched (s.atOwed f d rest pre post e plan hs) v f.screen :=
    State.latched_of_performLatch hr hv
  have hheld : (v.composeWaiting f.screen).port.held = [] := by
    rw [State.held_composeWaiting, hlatch.port, atOwed_port]
    exact held_answered h
  have hall := State.composedAll_composeWaiting hactive
  rw [hwait, hscreen] at hall
  rw [hv] at hret
  exact ⟨_, exec_composerFetchReturn h hret hheld, v, hs', hlatch, hactive, hall⟩

theorem fetchPerformsOwed (hs : HoldSet) : Claim.FetchPerformsOwed s f a d rest pre post e plan hs := by
  intro h hst hplan hnone howed hset
  obtain ⟨t, hexec, v, hs', hlatch, -, hcomp⟩ :=
    fetchComposesWaiting hs h hst hplan (fun q hq => (hnone q hq).1) howed hset
  have hnil : waitingOf (pre ++ post) = [] :=
    List.filter_eq_nil_iff.mpr fun q hq => by simpa using (hnone q hq).2
  rw [hnil] at hcomp
  exact ⟨t, hexec, hcomp ▸ hlatch⟩

end

/-- Settles O26: the entry of the fetch is found by its number, its items in the beat are formed, and the last
fetch passes to the release of the set, whose owed latch is that of `performLatch_eq`. -/
theorem fetchReturnFormsMacropixels : Obligations.FetchReturnFormsMacropixels :=
  ⟨fun _ _ _ _ _ _ _ _ _ _ n => fetchNotLast n, fun _ _ _ _ _ _ _ _ _ _ => fetchLast,
    fun _ _ _ _ _ _ _ _ _ _ hs => fetchReleasesSet hs, fun _ _ _ _ _ _ _ _ _ hs => fetchPerformsOwed hs,
    fun _ _ _ _ _ _ _ _ _ hs => fetchComposesWaiting hs⟩

end Sys2Proof.Machine

/-!
Read beats of an enabled screen's window (R86, R89, R104, R119): the latch test, the last line read, and how the beat
is served.
-/
namespace Sys2Proof.Machine

/-! ### The latch test and the last line read (R86) -/

theorem Screen.readLatches_iff (y : Screen) (n : Nat) : y.readLatches n = true ↔ y.readDue n := by
  simp [Screen.readLatches, Screen.readDue]

/-- The state once a read beat at address `a` has set the last line read, before the latch test (R86). -/
def State.readSeen (s : State) (x : ScrId) (a : Addr) : State := s.setScreen x (Claim.seen s x a)

@[simp] theorem State.screen_readSeen (s : State) (x : ScrId) (a : Addr) :
    (s.readSeen x a).screen x = Claim.seen s x a := State.screen_setScreen_self ..

section
variable {s : State} {p : PortTag} {x : ScrId} {a : Addr}

theorem exec_screenReadBeat (h : Claim.reads s x a) :
    exec (.screenReadBeat p a) s =
      .next ((if (s.screen x).readLatches (((Claim.seen s x a).lastLine).getD 0) then
        (s.readSeen x a).latchDue x else s.readSeen x a).serveRead x p
          (beatBase a - (s.screen x).geom.base)) := by
  obtain ⟨hquiet, hclass, hroom, -⟩ := h
  have htake : s.canTake (.beat p a .read) = true := by
    rw [State.canTake, hclass]
    exact decide_eq_true hroom
  show Host.Outcome.next (s.present (.beat p a .read)) = _
  rw [State.present_of_canTake hquiet htake, State.acceptItem, State.acceptBeat, hclass]
  rfl

/-! ### How the beat is served (R104, steps 3 to 5) -/

theorem State.serveRead_of_owed {u : State} {o : Nat} (hmode : (u.screen x).geom.mode = .readStart)
    (howed : (u.screen x).owed = true) : u.serveRead x p o = u.addEntry x p o :=
  if_pos ⟨hmode, howed⟩

theorem State.serveRead_of_waitLatch {u : State} {o : Nat} (hmode : (u.screen x).geom.mode ≠ .readStart)
    (hstate : (u.screen x).state = .waitLatch) :
    u.serveRead x p o = u.answerRead p (uniformBeat (u.screen x).cfg.background) := by
  rw [State.serveRead]
  dsimp only
  rw [if_neg fun h => hmode h.1, hstate]

/-- The entry of a read beat that arrives is found by its number in the table it joins. -/
theorem State.serveRead_of_running {u : State} {o : Nat} {hs : HoldSet}
    (howed : ¬((u.screen x).geom.mode = .readStart ∧ (u.screen x).owed = true))
    (hstate : (u.screen x).state = .running) (hactive : (u.screen x).active = some hs)
    (hids : ∀ q ∈ (u.screen x).table, q.id ≠ u.nextEntry) :
    u.serveRead x p o =
      (u.addEntry x p o).composeEntry x hs ⟨u.nextEntry, p.stream, u.port.place p, o, .waiting⟩ := by
  have htable : ((u.addEntry x p o).screen x).table =
      (u.screen x).table ++ [⟨u.nextEntry, p.stream, u.port.place p, o, .waiting⟩] :=
    congrArg Screen.table (State.screen_setScreen_self ..)
  rw [State.serveRead]
  dsimp only
  rw [if_neg howed, hstate, hactive]
  dsimp only
  rw [find_entry htable rfl (by simpa using hids)]

theorem State.addEntry_eq (u : State) (x : ScrId) (p : PortTag) (o : Nat) :
    u.addEntry x p o =
      { u.setScreen x { u.screen x with
          table := (u.screen x).table ++ [⟨u.nextEntry, p.stream, u.port.place p, o, .waiting⟩] } with
        port := u.port.accept p false [none]
        nextEntry := u.nextEntry + 1 } := rfl

/-- An entry that is removed as soon as it has joined the table leaves the table as it was. -/
theorem State.removeEntry_addEntry {u : State} {o : Nat} (hids : ∀ q ∈ (u.screen x).table, q.id ≠ u.nextEntry) :
    (u.addEntry x p o).setScreen x (((u.addEntry x p o).screen x).removeEntry u.nextEntry) =
      { u with port := u.port.accept p false [none], nextEntry := u.nextEntry + 1 } := by
  have hscreen : (u.addEntry x p o).screen x = { u.screen x with
      table := (u.screen x).table ++ [⟨u.nextEntry, p.stream, u.port.place p, o, .waiting⟩] } :=
    State.screen_setScreen_self ..
  have htable := filter_entry (pre := (u.screen x).table) (post := [])
    (e := ⟨u.nextEntry, p.stream, u.port.place p, o, .waiting⟩) rfl (by simpa using hids)
  rw [List.append_nil] at htable
  have hback (z : Screen) : (u.setScreen x z).setScreen x (u.screen x) = u := by
    rw [State.setScreen_setScreen, State.setScreen_screen]
  rw [Screen.removeEntry, hscreen, htable, State.addEntry_eq]
  exact congrArg (fun v : State =>
    { v with port := u.port.accept p false [none], nextEntry := u.nextEntry + 1 }) (hback _)

/-! ### The entries a latch leaves (R90) -/

@[simp] theorem Entry.id_retired (e : Entry) : e.retired.id = e.id := by
  obtain ⟨id, st, rp, o, state⟩ := e
  match state with
  | .waiting => rfl
  | .fetching .active p n => rfl
  | .fetching .retiring p n => rfl

theorem forall_id_latched {y : Screen} {hs : HoldSet} {choice : LayoutChoice} {n : Nat} :
    (∀ q ∈ (y.latched hs choice).table, q.id ≠ n) ↔ ∀ q ∈ y.table, q.id ≠ n := by
  unfold Screen.latched
  dsimp only
  split
  · simp
  · rfl

theorem Latched.nextEntry {s t : State} {sc : ScrId} (h : Latched s t sc) : t.nextEntry = s.nextEntry := by
  unfold Latched at h
  dsimp only at h
  split at h
  · obtain ⟨-, -, -, -, -, -, ht⟩ := h
    rw [ht]
  · exact h.elim

/-! ### The four answers -/

theorem readWithoutSet : Claim.ReadWithoutSet s p x a := by
  intro h hmode hstate
  have hnot : ¬(s.screen x).readLatches (((Claim.seen s x a).lastLine).getD 0) = true := by
    rw [Screen.readLatches_iff]
    exact fun hdue => hmode hdue.1
  rw [exec_screenReadBeat h, if_neg hnot,
    State.serveRead_of_waitLatch (by rwa [State.screen_readSeen]) (by rwa [State.screen_readSeen]),
    State.screen_readSeen]
  rfl

theorem readWaits : Claim.ReadWaits s p x a := by
  intro h hmode hwhy hret
  rw [exec_screenReadBeat h]
  have howed : (if (s.screen x).readLatches (((Claim.seen s x a).lastLine).getD 0) then
      (s.readSeen x a).latchDue x else s.readSeen x a) =
      s.setScreen x { Claim.seen s x a with owed := true } := by
    split
    · rw [State.latchDue_of_some (by rwa [State.screen_readSeen]), State.screen_readSeen, State.readSeen,
        State.setScreen_setScreen]
    · next hnot =>
      rw [Screen.readLatches_iff] at hnot
      have ho := hwhy.resolve_right hnot
      rw [← ho]
      rfl
  rw [howed, State.serveRead_of_owed (by rwa [State.screen_setScreen_self])
    (by rw [State.screen_setScreen_self]), State.addEntry_eq, State.setScreen_setScreen,
    State.screen_setScreen_self]
  rfl

/-- A set whose layout has no pane draws its background in every macropixel (R106, R108). -/
theorem State.plan_of_noPane (s : State) (g : ScrGeom) {hs : HoldSet} (o : Nat) (h : hs.layout.count = 0) :
    s.plan g hs o = List.replicate 16 (.colour hs.background) := by
  have hitem (x y : Nat) : s.planItem hs x y = .colour hs.background := by
    have hcover : hs.layout.cover x y = none := by
      simp [Layout.cover, Layout.entries, Layout.used, h]
    rw [State.planItem, hcover]
  unfold State.plan
  dsimp only
  split
  · rfl
  · simp only [hitem]
    rfl

/-- An entry under a set whose layout has no pane is answered at once, with the set's background. -/
theorem State.composeEntry_of_noPane (s : State) (x : ScrId) {hs : HoldSet} (e : Entry)
    (h : hs.layout.count = 0) :
    s.composeEntry x hs e =
      (s.setScreen x ((s.screen x).removeEntry e.id)).formRead e.resp (copiesOf hs.background) := by
  rw [State.composeEntry]
  dsimp only
  rw [State.plan_of_noPane s _ _ h]
  rfl

theorem readDrawsNothing (hs : HoldSet) : Claim.ReadDrawsNothing s p x a hs := by
  intro h hnot hkept hstate hactive hcount
  rw [← Screen.readLatches_iff] at hnot
  obtain ⟨-, -, -, hids⟩ := id h
  have howed : ¬((Claim.seen s x a).geom.mode = .readStart ∧ (Claim.seen s x a).owed = true) := by
    rintro ⟨hm, ho⟩
    exact Bool.false_ne_true ((hkept hm).symm.trans ho)
  rw [exec_screenReadBeat h, if_neg hnot,
    State.serveRead_of_running (hs := hs) (by rwa [State.screen_readSeen]) (by rwa [State.screen_readSeen])
      (by rwa [State.screen_readSeen]) (by rwa [State.screen_readSeen]),
    State.composeEntry_of_noPane _ _ _ hcount, State.removeEntry_addEntry (by rwa [State.screen_readSeen])]
  rfl

theorem readStartLatches : Claim.ReadStartLatches s p x a := by
  intro h hret howed hdue
  obtain ⟨-, -, -, hfresh⟩ := id h
  obtain ⟨v, hv⟩ : ∃ v, (s.readSeen x a).performLatch x = v := ⟨_, rfl⟩
  have hret' : ((s.readSeen x a).screen x).retiring = none := by rwa [State.screen_readSeen]
  have hlatch : Latched (s.readSeen x a) v x := State.latched_of_performLatch hret' hv
  obtain ⟨hs, choice, hscreen⟩ := State.screen_performLatch hret'
  rw [hv, State.screen_readSeen] at hscreen
  have hids : ∀ q ∈ (v.screen x).table, q.id ≠ v.nextEntry := by
    rw [hscreen, hlatch.nextEntry]
    exact forall_id_latched.mpr hfresh
  have hserved := State.serveRead_of_running (p := p) (u := v) (x := x) (hs := hs)
    (o := beatBase a - (s.screen x).geom.base) (by rw [hscreen]; simp [Screen.latched, Claim.seen, howed])
    (by rw [hscreen]; rfl) (by rw [hscreen]; rfl) hids
  have hexec := exec_screenReadBeat (p := p) h
  rw [if_pos ((Screen.readLatches_iff ..).mpr hdue), State.latchDue_of_none hret', hv, hserved,
    State.addEntry_eq, hlatch.port, hlatch.nextEntry] at hexec
  exact ⟨_, hexec, v, hs, hlatch, by rw [hscreen]; rfl, State.composed_composeEntry ..⟩

end

/-- Settles O19: the four answers by the latch test and the state of the screen's set; an entry that joins the table
is found there by its number. -/
theorem screenReadAnsweredAtOnce : Obligations.ScreenReadAnsweredAtOnce :=
  ⟨fun _ _ _ _ => readWithoutSet, fun _ _ _ _ hs => readDrawsNothing hs, fun _ _ _ _ => readStartLatches,
    fun _ _ _ _ => readWaits⟩

end Sys2Proof.Machine

/-!
Every step keeps the bounds of ring, queues and tables, and leaves no timer in the past (R103, R158, R162, R171): what
the bounds are told by, and the updates and shared operations that keep them.
-/
namespace Sys2Proof.Machine

-- One theorem after another: each waits for the kernel's check of those before it.
set_option Elab.async false

/-! ### Timers that may stand at the present moment (R162) -/

/-- A timer set to `o` at the moment `now`: idle, or less than 2^31 µs ahead, and at its expiry only where it is one
of the timers `late`. -/
def Timer.Ahead (late : List Timer) (now : Time) (x : Timer) (o : Option Time) : Prop :=
  ∀ e, o = some e → (e - now).toNat < 2 ^ 31 ∧ (e = now → x ∈ late)

theorem Timer.ahead_none (late : List Timer) (now : Time) (x : Timer) : x.Ahead late now none := nofun

theorem toNat_timeAfter_sub (now : Time) {n : Nat} (hn : n < 2 ^ 31) :
    (timeAfter now n - now).toNat = n := by
  rw [timeAfter, BitVec.add_comm, BitVec.add_sub_cancel, BitVec.toNat_ofNat]
  exact Nat.mod_eq_of_lt (by omega)

theorem timeAfter_ne (now : Time) {n : Nat} (h0 : 0 < n) (hn : n < 2 ^ 31) : timeAfter now n ≠ now := by
  intro he
  have hsub := toNat_timeAfter_sub now hn
  rw [he, BitVec.sub_self] at hsub
  exact absurd hsub.symm (by simpa using h0.ne')

/-- A timer set to run out a time after the present moment. -/
theorem Timer.ahead_timeAfter (late : List Timer) (now : Time) (x : Timer) {n : Nat} (h0 : 0 < n)
    (hn : n < 2 ^ 31) : x.Ahead late now (some (timeAfter now n)) := by
  intro e he
  cases he
  rw [toNat_timeAfter_sub now hn]
  exact ⟨hn, fun heq => absurd heq (timeAfter_ne now h0 hn)⟩

/-! ### The times that timers are set to (R1, R71, R80) -/

theorem le_clamp {lo hi : Nat} (h : lo ≤ hi) (x : Nat) : lo ≤ clamp lo hi x := by
  unfold clamp
  split
  · exact le_rfl
  · split <;> omega

theorem clamp_le {lo hi : Nat} (h : lo ≤ hi) (x : Nat) : clamp lo hi x ≤ hi := by
  unfold clamp
  split
  · exact h
  · split <;> omega

theorem CamSettings.periodUsed_mem (c : CamSettings) : 1000 ≤ c.periodUsed ∧ c.periodUsed ≤ 1000000 :=
  ⟨le_clamp (by decide) _, clamp_le (by decide) _⟩

theorem CamSettings.staleTime_mem (c : CamSettings) : 0 < c.staleTime ∧ c.staleTime < 2 ^ 31 := by
  obtain ⟨hlo, hhi⟩ := c.periodUsed_mem
  have hf : 5 ≤ clamp 5 16 c.staleFactor.toNat := le_clamp (by decide) _
  have hf' : clamp 5 16 c.staleFactor.toNat ≤ 16 := clamp_le (by decide) _
  have h1 := Nat.mul_le_mul hlo hf
  have h2 := Nat.mul_le_mul hhi hf'
  unfold CamSettings.staleTime
  omega

theorem CamSettings.lostTime_mem (c : CamSettings) : 0 < c.lostTime ∧ c.lostTime < 2 ^ 31 := by
  obtain ⟨hlo, hhi⟩ := c.periodUsed_mem
  have he : 2 ^ clamp 1 10 c.lostExponent.toNat ≤ 2 ^ 10 :=
    Nat.pow_le_pow_right (by decide) (clamp_le (by decide) _)
  have h1 := Nat.mul_le_mul hlo (Nat.one_le_two_pow (n := clamp 1 10 c.lostExponent.toNat))
  have h2 := Nat.mul_le_mul hhi he
  unfold CamSettings.lostTime
  omega

theorem CamSettings.gapLimit_mem (c : CamSettings) : 0 < c.gapLimit ∧ c.gapLimit < 2 ^ 31 := by
  have hlo : 50 ≤ clamp 50 65535 c.gapTime.toNat := le_clamp (by decide) _
  have hhi : clamp 50 65535 c.gapTime.toNat ≤ 65535 := clamp_le (by decide) _
  have he : 2 ^ clamp 0 3 c.gapRelax.toNat ≤ 2 ^ 3 :=
    Nat.pow_le_pow_right (by decide) (clamp_le (by decide) _)
  have h1 := Nat.mul_le_mul hlo (Nat.one_le_two_pow (n := clamp 0 3 c.gapRelax.toNat))
  have h2 := Nat.mul_le_mul hhi he
  unfold CamSettings.gapLimit
  omega

theorem ScrSettings.periodUsed_mem (c : ScrSettings) : 0 < c.periodUsed ∧ c.periodUsed < 2 ^ 31 := by
  have hlo : 1000 ≤ c.periodUsed := le_clamp (by decide) _
  have hhi : c.periodUsed ≤ 1000000 := clamp_le (by decide) _
  omega

/-- A time of 16 bits that is not 0, as the filter time and the offset time are (R71, R80). -/
theorem toNat_mem_of_ne_zero {x : BitVec 16} (h : x ≠ 0) : 0 < x.toNat ∧ x.toNat < 2 ^ 31 := by
  have hx := x.isLt
  refine ⟨Nat.pos_of_ne_zero fun h0 => h (BitVec.eq_of_toNat_eq h0), by omega⟩

/-! ### The bounds -/

/-- The bounds of ring, queues and tables, and no timer past: only the timers `late` may stand at their expiry. The
list lets a tick take them one after the other, none set again to the same moment (log entry 4). -/
structure State.Bounded (late : List Timer) (s : State) : Prop where
  ring : s.ringBounded
  queues : s.queuesBounded
  tables : s.tablesBounded
  timers : ∀ x : Timer, x.Ahead late s.timebase (s.timer x)

theorem mem_allTimers (x : Timer) : x ∈ allTimers := by
  simp only [allTimers, List.mem_append, List.mem_flatMap, List.mem_map]
  cases x with
  | stale c => exact .inl (.inl ⟨c, mem_allCams c, by simp⟩)
  | lost c => exact .inl (.inl ⟨c, mem_allCams c, by simp⟩)
  | gap c => exact .inl (.inl ⟨c, mem_allCams c, by simp⟩)
  | filter l => exact .inl (.inr ⟨l, mem_allLines l, rfl⟩)
  | offset sc => exact .inr ⟨sc, mem_allScreens sc, by simp⟩
  | cycle sc => exact .inr ⟨sc, mem_allScreens sc, by simp⟩

/-- With every timer listed these are the bounds that O55 speaks of. -/
theorem State.bounded_allTimers_iff (s : State) :
    s.Bounded allTimers ↔ s.ringBounded ∧ s.queuesBounded ∧ s.tablesBounded ∧ s.timersAhead :=
  ⟨fun ⟨hr, hq, ht, hx⟩ => ⟨hr, hq, ht, fun x e he => (hx x e he).1⟩,
    fun ⟨hr, hq, ht, hx⟩ => ⟨hr, hq, ht, fun x e he => ⟨hx x e he, fun _ => mem_allTimers x⟩⟩⟩

section
variable {late : List Timer} {s t : State}

theorem State.Bounded.mono {late' : List Timer} (h : s.Bounded late) (hl : late ⊆ late') : s.Bounded late' :=
  ⟨h.ring, h.queues, h.tables, fun x e he => ⟨(h.timers x e he).1, fun hn => hl ((h.timers x e he).2 hn)⟩⟩

/-- A timer that does not stand at its expiry leaves the list. -/
theorem State.Bounded.drop {x : Timer} (h : s.Bounded (x :: late)) (hx : s.timer x ≠ some s.timebase) :
    s.Bounded late := by
  refine ⟨h.ring, h.queues, h.tables, fun y e he => ⟨(h.timers y e he).1, fun hn => ?_⟩⟩
  refine (List.mem_cons.mp ((h.timers y e he).2 hn)).resolve_left fun hy => hx ?_
  rw [← hy, he, hn]

/-- The bounds are told by ring, arbiter, screens, cameras, lines and Timebase alone. -/
theorem State.Bounded.congr (h : s.Bounded late) (hring : t.ring = s.ring := by rfl)
    (harb : t.arb = s.arb := by rfl) (hscreens : t.screens = s.screens := by rfl)
    (hcams : t.cams = s.cams := by rfl) (hlines : t.lines = s.lines := by rfl)
    (hnow : t.timebase = s.timebase := by rfl) : t.Bounded late := by
  have htimer (x : Timer) : t.timer x = s.timer x := by
    cases x <;> simp [State.timer, State.cam, State.line, State.screen, hcams, hlines, hscreens]
  refine ⟨?_, fun q => ?_, fun sc => ?_, fun x => ?_⟩
  · rw [State.ringBounded, hring]
    exact h.ring
  · rw [State.queue, harb]
    exact h.queues q
  · rw [State.screen, hscreens]
    exact h.tables sc
  · rw [htimer, hnow]
    exact h.timers x

theorem State.Bounded.ite {p : Prop} [Decidable p] (hs : s.Bounded late) (ht : t.Bounded late) :
    (if p then s else t).Bounded late := by
  split
  · exact hs
  · exact ht

/-! ### The state's updates -/

theorem State.Bounded.setCam (h : s.Bounded late) (c : CamId) {x : Camera}
    (hstale : (Timer.stale c).Ahead late s.timebase x.staleTimer)
    (hlost : (Timer.lost c).Ahead late s.timebase x.lostTimer)
    (hgap : (Timer.gap c).Ahead late s.timebase x.gapTimer) : (s.setCam c x).Bounded late := by
  refine ⟨h.ring, h.queues, h.tables, fun y => ?_⟩
  by_cases hy : y = .stale c ∨ y = .lost c ∨ y = .gap c
  · rcases hy with rfl | rfl | rfl <;> simpa [State.timer]
  · have hkept : (s.setCam c x).timer y = s.timer y := by
      cases y with
      | stale d => exact congrArg Camera.staleTimer (State.cam_setCam_of_ne s x fun e => hy (by simp [e]))
      | lost d => exact congrArg Camera.lostTimer (State.cam_setCam_of_ne s x fun e => hy (by simp [e]))
      | gap d => exact congrArg Camera.gapTimer (State.cam_setCam_of_ne s x fun e => hy (by simp [e]))
      | filter | offset | cycle => rfl
    rw [hkept]
    exact h.timers y

/-- The three timers of a camera. -/
def Camera.timers (x : Camera) : Option Time × Option Time × Option Time :=
  (x.staleTimer, x.lostTimer, x.gapTimer)

theorem State.Bounded.setCam_kept (h : s.Bounded late) (c : CamId) {x : Camera}
    (hx : x.timers = (s.cam c).timers := by rfl) : (s.setCam c x).Bounded late := by
  simp only [Camera.timers, Prod.mk.injEq] at hx
  obtain ⟨hstale, hlost, hgap⟩ := hx
  exact h.setCam c (hstale ▸ h.timers (.stale c)) (hlost ▸ h.timers (.lost c)) (hgap ▸ h.timers (.gap c))

theorem State.Bounded.setScreen (h : s.Bounded late) (sc : ScrId) {x : Screen} (htable : x.table.length ≤ 32)
    (hoffset : (Timer.offset sc).Ahead late s.timebase x.offsetTimer)
    (hcycle : (Timer.cycle sc).Ahead late s.timebase x.cycleTimer) : (s.setScreen sc x).Bounded late := by
  refine ⟨h.ring, h.queues, fun i => ?_, fun y => ?_⟩
  · rw [State.screen_setScreen]
    split
    · exact htable
    · exact h.tables i
  · by_cases hy : y = .offset sc ∨ y = .cycle sc
    · rcases hy with rfl | rfl <;> simpa [State.timer]
    · have hkept : (s.setScreen sc x).timer y = s.timer y := by
        cases y with
        | offset i => exact congrArg Screen.offsetTimer (State.screen_setScreen_of_ne s x fun e => hy (by simp [e]))
        | cycle i => exact congrArg Screen.cycleTimer (State.screen_setScreen_of_ne s x fun e => hy (by simp [e]))
        | stale | lost | gap | filter => rfl
      rw [hkept]
      exact h.timers y

/-- The two timers of a screen. -/
def Screen.timers (x : Screen) : Option Time × Option Time := (x.offsetTimer, x.cycleTimer)

theorem State.Bounded.setScreen_kept (h : s.Bounded late) (sc : ScrId) {x : Screen}
    (htable : x.table.length ≤ (s.screen sc).table.length := by exact le_rfl)
    (hx : x.timers = (s.screen sc).timers := by rfl) : (s.setScreen sc x).Bounded late := by
  simp only [Screen.timers, Prod.mk.injEq] at hx
  obtain ⟨hoffset, hcycle⟩ := hx
  exact h.setScreen sc (htable.trans (h.tables sc)) (hoffset ▸ h.timers (.offset sc))
    (hcycle ▸ h.timers (.cycle sc))

theorem State.Bounded.setLine (h : s.Bounded late) (l : LineId) {x : Line}
    (hx : (Timer.filter l).Ahead late s.timebase x.filterTimer) : (s.setLine l x).Bounded late := by
  refine ⟨h.ring, h.queues, h.tables, fun y => ?_⟩
  by_cases hy : y = .filter l
  · subst hy
    simpa [State.timer]
  · have hkept : (s.setLine l x).timer y = s.timer y := by
      cases y with
      | filter i => exact congrArg Line.filterTimer (State.line_setLine_of_ne s x fun e => hy (by simp [e]))
      | stale | lost | gap | offset | cycle => rfl
    rw [hkept]
    exact h.timers y

theorem State.Bounded.setLine_kept (h : s.Bounded late) (l : LineId) {x : Line}
    (hx : x.filterTimer = (s.line l).filterTimer := by rfl) : (s.setLine l x).Bounded late :=
  h.setLine l (hx ▸ h.timers (.filter l))

theorem State.Bounded.setEngine (h : s.Bounded late) (e : Engine) : (s.setEngine e).Bounded late := h.congr

theorem State.Bounded.setMailbox (h : s.Bounded late) (o : Owner) (m : Mailbox) :
    (s.setMailbox o m).Bounded late := by
  rw [State.setMailbox_eq]
  exact h.congr

theorem State.Bounded.answer (h : s.Bounded late) (o : Owner) (r : Result) : (s.answer o r).Bounded late :=
  h.setMailbox o _

theorem State.Bounded.answerOpen (h : s.Bounded late) (o : Owner) : (s.answerOpen o).Bounded late :=
  h.setMailbox o _

theorem State.Bounded.answerEnd (h : s.Bounded late) (o : Owner) (r : Result) :
    (s.answerEnd o r).Bounded late := h.setMailbox o _

theorem State.Bounded.slotsBy (h : s.Bounded late) (f : CamId → Nat → Slot → Slot) :
    (s.slotsBy f).Bounded late := by
  have htimer (x : Timer) : (s.slotsBy f).timer x = s.timer x := by
    cases x <;> simp [State.timer, State.slotsBy, State.cam, State.line, State.screen]
  exact ⟨h.ring, h.queues, h.tables, fun x => htimer x ▸ h.timers x⟩

/-! ### Beats handed and reports (R158, R171 to R173, R175) -/

/-- A beat is handed only where its queue has a place (R158). -/
theorem State.Bounded.hand (h : s.Bounded late) {q : Queue} (hroom : s.room q = true) (a : Nat) (op : MemOp) :
    (s.hand q a op).Bounded late :=
  ⟨h.ring, fun r => State.length_queue_hand hroom r a op (h.queues r), h.tables, h.timers⟩

theorem State.queuesBounded_handStaged {s : State} (h : s.queuesBounded) (xs : List Record) :
    (s.handStaged xs).queuesBounded := by
  induction xs generalizing s with
  | nil => exact h
  | cons x rest ih =>
    rw [State.handStaged]
    split
    · next hroom => exact ih fun q => State.length_queue_hand hroom q _ _ (h q)
    · exact h

theorem State.Bounded.report (h : s.Bounded late) (k : Kind) (src : Nat) (d0 d1 : BitVec 32) :
    (s.report k src d0 d1).Bounded late := by
  have hqueues : (s.report k src d0 d1).queuesBounded := by
    unfold State.report
    dsimp only
    split
    · exact h.queues
    · refine State.queuesBounded_handStaged ?_ _
      exact h.queues
  refine ⟨State.occupancy_report h.ring k src d0 d1, hqueues, fun sc => ?_, ?_⟩
  · rw [State.screen_report]
    exact h.tables sc
  · rw [State.report_eq]
    exact h.timers

theorem State.Bounded.handNextRecord (h : s.Bounded late) : s.handNextRecord.Bounded late := by
  unfold State.handNextRecord
  split
  · next r rest hst =>
    split
    · next hroom =>
      have hocc : s.ring.unconsumed + (r :: rest).length ≤ 63 := hst ▸ h.ring
      exact ⟨(Ring.occupancy_advance hocc).le.trans hocc,
        fun q => State.length_queue_hand hroom q _ _ (h.queues q), h.tables, h.timers⟩
    · exact h
  · exact h

/-- A consumer index written does not move away from the producer index (R175). -/
theorem Ring.unconsumed_consumerAfter (r : Ring) (v : Byte) :
    (r.producer - r.consumerAfter v).toNat ≤ r.unconsumed := by
  unfold Ring.consumerAfter Ring.unconsumed
  dsimp only
  split
  · simp
  · next hle =>
    generalize r.producer = p at *
    generalize r.consumer = c at *
    generalize v.setWidth 6 = w at *
    bv_omega

theorem State.Bounded.writeConsumer (h : s.Bounded late) (v : Byte) : (s.writeConsumer v).Bounded late :=
  ⟨(Nat.add_le_add_right (s.ring.unconsumed_consumerAfter v) _).trans h.ring, h.queues, h.tables, h.timers⟩

/-! ### The upstream port (R149) -/

theorem State.Bounded.writeDone (h : s.Bounded late) (p : PortTag) : (s.writeDone p).Bounded late := h.congr

theorem State.Bounded.answerRead (h : s.Bounded late) (p : PortTag) (d : Beat) :
    (s.answerRead p d).Bounded late := h.congr

theorem State.Bounded.expectRead (h : s.Bounded late) (p : PortTag) : (s.expectRead p).Bounded late := h.congr

theorem State.Bounded.formReadWith (h : s.Bounded late) (r : RespRef) (d : Beat) (f : SideFlags) :
    (s.formReadWith r d f).Bounded late := h.congr

theorem State.Bounded.formRead (h : s.Bounded late) (r : RespRef) (d : Beat) : (s.formRead r d).Bounded late :=
  h.formReadWith r d _

theorem State.Bounded.popRead (h : s.Bounded late) : s.popRead.Bounded late := h.congr

end

end Sys2Proof.Machine

/-!
The blocks keep the bounds (R103, R158, R162, R171): no operation of the screens, the engine, the cameras and the lines
hands a beat without a place, adds to a table, or sets a timer to a time that is not ahead.
-/
namespace Sys2Proof.Machine

-- One theorem after another: each waits for the kernel's check of those before it.
set_option Elab.async false

section
variable {late : List Timer} {s : State}

/-! ### The Pane Composer (R103, R104, R115, R118) -/

theorem State.Bounded.handFetches (h : s.Bounded late) (fs : List Fetch) : (s.handFetches fs).Bounded late := by
  induction fs generalizing s with
  | nil => exact h.congr
  | cons f rest ih =>
    rw [State.handFetches]
    split
    · next hroom => exact ih (h.hand hroom _ _)
    · exact h.congr

theorem State.Bounded.handNextFetch (h : s.Bounded late) : s.handNextFetch.Bounded late := by
  unfold State.handNextFetch
  split
  · split
    · next hroom => exact (h.hand hroom _ _).congr
    · exact h
  · exact h

theorem State.Bounded.modEntry (h : s.Bounded late) (sc : ScrId) (id : Nat) (f : Entry → Entry) :
    (s.setScreen sc ((s.screen sc).modEntry id f)).Bounded late :=
  h.setScreen_kept sc (by simp [Screen.modEntry])

theorem State.Bounded.removeEntry (h : s.Bounded late) (sc : ScrId) (id : Nat) :
    (s.setScreen sc ((s.screen sc).removeEntry id)).Bounded late :=
  h.setScreen_kept sc (List.length_filter_le ..)

theorem State.Bounded.composeEntry (h : s.Bounded late) (sc : ScrId) (hs : HoldSet) (e : Entry) :
    (s.composeEntry sc hs e).Bounded late := by
  unfold State.composeEntry
  dsimp only
  split
  · exact (h.removeEntry sc e.id).formRead _ _
  · exact (h.modEntry sc e.id _).handFetches _

theorem State.Bounded.composeEntries (h : s.Bounded late) (sc : ScrId) (hs : HoldSet) (es : List Entry) :
    (s.composeEntries sc hs es).Bounded late := by
  induction es generalizing s with
  | nil => exact h
  | cons e rest ih => exact ih (h.composeEntry sc hs e)

theorem State.Bounded.composeWaiting (h : s.Bounded late) (sc : ScrId) : (s.composeWaiting sc).Bounded late := by
  unfold State.composeWaiting
  dsimp only
  split
  · exact h.composeEntries sc _ _
  · exact h

/-- An entry joins a table that has room (R103, R104). -/
theorem State.Bounded.addEntry (h : s.Bounded late) {sc : ScrId} (hroom : (s.screen sc).table.length < 32)
    (p : PortTag) (o : Nat) : (s.addEntry sc p o).Bounded late := by
  rw [State.addEntry_eq]
  have hs := h.setScreen sc (x := { s.screen sc with
      table := (s.screen sc).table ++ [⟨s.nextEntry, p.stream, s.port.place p, o, .waiting⟩] })
    (by simpa using hroom) (h.timers (.offset sc)) (h.timers (.cycle sc))
  exact hs.congr

/-! ### The Screen Latch Controller (R85 to R101) -/

theorem State.Bounded.dropSet (h : s.Bounded late) (sc : ScrId) (r : SetRole) :
    (s.dropSet sc r).Bounded late := by
  cases hset : (s.screen sc).setOf r with
  | none =>
    rw [State.dropSet_of_none hset]
    exact h
  | some hs =>
    rw [State.dropSet_of_some hset]
    refine (h.setScreen_kept sc ?_ ?_).slotsBy _ <;> cases r <;> rfl

theorem State.Bounded.applyCommit (h : s.Bounded late) (sc : ScrId) : (s.applyCommit sc).Bounded late := by
  rw [State.applyCommit_eq]
  exact (h.setScreen_kept sc).setMailbox _ _

theorem State.Bounded.retire (h : s.Bounded late) (sc : ScrId) : (s.retire sc).Bounded late := by
  cases ha : (s.screen sc).active with
  | none =>
    rw [State.retire_of_none ha]
    exact h
  | some hs =>
    rw [State.retire_of_some ha]
    exact (h.setScreen_kept sc (by simp)).slotsBy _

theorem State.Bounded.install (h : s.Bounded late) (sc : ScrId) (choice : LayoutChoice) :
    (s.install sc choice).Bounded late := by
  rw [State.install_eq]
  exact (h.setScreen_kept sc).slotsBy _

theorem State.Bounded.reportLayout (h : s.Bounded late) (sc : ScrId) (choice : LayoutChoice) :
    (s.reportLayout sc choice).Bounded late := by
  unfold State.reportLayout
  dsimp only
  split
  · exact h
  · exact h.report ..

theorem State.Bounded.performLatch (h : s.Bounded late) (sc : ScrId) : (s.performLatch sc).Bounded late :=
  (((h.applyCommit sc).reportLayout sc _).retire sc).install sc _

theorem State.Bounded.latchDue (h : s.Bounded late) (sc : ScrId) : (s.latchDue sc).Bounded late := by
  unfold State.latchDue
  dsimp only
  split
  · exact h.setScreen_kept sc
  · exact h.performLatch sc

theorem State.Bounded.performOwed (h : s.Bounded late) (sc : ScrId) : (s.performOwed sc).Bounded late := by
  unfold State.performOwed
  dsimp only
  split
  · exact ((h.setScreen_kept sc (x := { s.screen sc with owed := false })).performLatch
      sc).composeWaiting sc
  · exact h

theorem State.Bounded.releaseAfter (h : s.Bounded late) (sc : ScrId) (r : SetRole) :
    (s.releaseAfter sc r).Bounded late := by
  unfold State.releaseAfter
  dsimp only
  split
  · exact h
  · cases r with
    | retiring => exact (h.dropSet sc .retiring).performOwed sc
    | active =>
      dsimp only
      split
      · exact h.dropSet sc .active
      · exact h

theorem State.Bounded.fetchReturn (h : s.Bounded late) (f : Fetch) (d : Beat) :
    (s.fetchReturn f d).Bounded late := by
  unfold State.fetchReturn
  dsimp only
  split
  · next e _ =>
    split
    · split
      · exact ((h.removeEntry f.screen e.id).formRead _ _).releaseAfter f.screen _
      · exact h.modEntry f.screen e.id _
    · exact h
  · exact h

theorem State.Bounded.releaseFallback (h : s.Bounded late) (c : CamId) (p : Nat) (sc : ScrId) (r : SetRole) :
    (s.releaseFallback c p sc r).Bounded late := by
  unfold State.releaseFallback
  dsimp only
  split
  · exact h
  · split
    · exact h
    · next f _ =>
      have htag : (s.removeTag c f (screenTag sc r true)).Bounded late := h.setCam_kept c
      refine State.Bounded.congr (htag.setScreen_kept sc ?_ ?_)
      · cases r <;> exact (List.length_map _).le
      · cases r <;> rfl

theorem State.Bounded.releaseFallbacks (h : s.Bounded late) (c : CamId) (p : Nat)
    (qs : List (ScrId × SetRole)) : (s.releaseFallbacks c p qs).Bounded late := by
  induction qs generalizing s with
  | nil => exact h
  | cons q rest ih => exact ih (h.releaseFallback c p q.1 q.2)

theorem State.Bounded.syncChange (h : s.Bounded late) (sc : ScrId) (level : Bool) :
    (s.syncChange sc level).Bounded late := by
  have hl := h.setScreen_kept sc (x := { s.screen sc with sync := level })
  unfold State.syncChange
  dsimp only
  split
  · split
    · exact hl.setScreen_kept sc (by rw [State.screen_setScreen_self]) (by rw [State.screen_setScreen_self]; rfl)
    · split
      · exact hl.latchDue sc
      · next hne =>
        obtain ⟨h0, hn⟩ := toNat_mem_of_ne_zero hne
        exact hl.setScreen sc (h.tables sc) (Timer.ahead_timeAfter _ _ _ h0 hn) (h.timers (.cycle sc))
  · exact hl

theorem State.Bounded.screenWrite (h : s.Bounded late) (sc : ScrId) (o : Nat) :
    (s.screenWrite sc o).Bounded late := by
  have hm := h.setScreen_kept sc
    (x := { s.screen sc with misuseCount := (s.screen sc).misuseCount + 1, misuse := true })
  unfold State.screenWrite
  dsimp only
  split
  · exact hm
  · exact hm.report ..

/-- A latch adds no entry to the table, so that a read beat still has its place after it (R90, R104). -/
theorem State.length_table_latchDue (s : State) (sc : ScrId) :
    ((s.latchDue sc).screen sc).table.length = (s.screen sc).table.length := by
  cases hr : (s.screen sc).retiring with
  | some hs => rw [State.latchDue_of_some (by rw [hr]; rfl), State.screen_setScreen_self]
  | none =>
    obtain ⟨hs, choice, hscreen⟩ := State.screen_performLatch hr
    rw [State.latchDue_of_none hr, hscreen, Screen.latched]
    dsimp only
    split
    · exact List.length_map _
    · rfl

theorem State.Bounded.serveRead (h : s.Bounded late) {sc : ScrId} (hroom : (s.screen sc).table.length < 32)
    (p : PortTag) (o : Nat) : (s.serveRead sc p o).Bounded late := by
  have ha := h.addEntry hroom p o
  unfold State.serveRead
  dsimp only
  split
  · exact ha
  · split
    · split
      · exact ha.composeEntry sc _ _
      · exact ha
    · exact h.answerRead ..

theorem State.Bounded.screenRead (h : s.Bounded late) {sc : ScrId} (hroom : (s.screen sc).table.length < 32)
    (p : PortTag) (o : Nat) : (s.screenRead sc p o).Bounded late := by
  have hl := h.setScreen_kept sc
    (x := { s.screen sc with lastLine := some ((s.screen sc).geom.lineOf o) })
  unfold State.screenRead
  dsimp only
  split
  · refine (hl.latchDue sc).serveRead ?_ p o
    rw [State.length_table_latchDue, State.screen_setScreen_self]
    exact hroom
  · exact hl.serveRead (by rw [State.screen_setScreen_self]; exact hroom) p o

theorem State.Bounded.takeEnable (h : s.Bounded late) (sc : ScrId) : (s.takeEnable sc).Bounded late := by
  refine State.Bounded.answer ?_ _ _
  split
  · refine h.setScreen sc (h.tables sc) (Timer.ahead_none _ _ _) ?_
    unfold Screen.enable
    dsimp only
    split
    · obtain ⟨h0, hn⟩ := (s.screen sc).cfg.periodUsed_mem
      exact Timer.ahead_timeAfter _ _ _ h0 hn
    · exact Timer.ahead_none _ _ _
  · exact h

theorem State.Bounded.dropIdleSet (h : s.Bounded late) (sc : ScrId) (r : SetRole) :
    (s.dropIdleSet sc r).Bounded late := by
  unfold State.dropIdleSet
  split
  · exact h
  · exact h.dropSet sc r

theorem State.Bounded.disableScreen (h : s.Bounded late) (sc : ScrId) : (s.disableScreen sc).Bounded late := by
  have hc := h.applyCommit sc
  have ht := (hc.setScreen sc
    (x := { (s.applyCommit sc).screen sc with offsetTimer := none, cycleTimer := none, owed := false })
    (hc.tables sc) (Timer.ahead_none _ _ _) (Timer.ahead_none _ _ _)).composeWaiting sc
  exact ((ht.setScreen_kept sc).dropIdleSet sc .active).dropIdleSet sc .retiring

theorem State.Bounded.takeDisable (h : s.Bounded late) (sc : ScrId) : (s.takeDisable sc).Bounded late := by
  refine State.Bounded.answer ?_ _ _
  split
  · exact h.disableScreen sc
  · exact h

theorem State.Bounded.takeCommit (h : s.Bounded late) (sc : ScrId) : (s.takeCommit sc).Bounded late := by
  unfold State.takeCommit
  dsimp only
  split
  · split
    · exact h.answer _ _
    · exact (h.setScreen_kept sc).answerOpen _
  · exact (h.setScreen_kept sc).answer _ _

/-! ### The Snapshot Engine (R126 to R148) -/

theorem State.Bounded.trigger (h : s.Bounded late) (ev : HwEvent) : (s.trigger ev).Bounded late := h.setEngine _

theorem State.Bounded.reportAllDone (h : s.Bounded late) (xs : List HeldDone) :
    (s.reportAllDone xs).Bounded late := by
  induction xs generalizing s with
  | nil => exact h
  | cons x rest ih => exact ih (h.report ..)

theorem State.Bounded.chainEnd (h : s.Bounded late) : s.chainEnd.Bounded late :=
  (h.reportAllDone _).setEngine _

theorem State.Bounded.endRun (h : s.Bounded late) (r : SnapResult) : (s.endRun r).Bounded late := by
  unfold State.endRun
  split
  · exact (h.report ..).setEngine _
  · exact h

theorem State.Bounded.storeAborted (h : s.Bounded late) : s.storeAborted.Bounded late := by
  unfold State.storeAborted
  split
  · exact h.setEngine _
  · exact h.endRun _

theorem State.Bounded.startCopy (h : s.Bounded late) (c : CamId) (j : Nat) (d : Loaded) :
    (s.startCopy c j d).Bounded late := by
  have htag : (s.addTag c j snapTag).Bounded late := h.setCam_kept c
  exact htag.setEngine _

theorem State.Bounded.checkLoaded (h : s.Bounded late) (d : Loaded) : (s.checkLoaded d).Bounded late := by
  unfold State.checkLoaded
  split
  · exact (h.setEngine _).chainEnd
  · split
    · exact h.endRun _
    · split
      · exact h.endRun _
      · dsimp only
        split
        · exact h.endRun _
        · split
          · exact h.endRun _
          · split
            · exact h.endRun _
            · exact h.startCopy ..

theorem State.Bounded.dropSource (h : s.Bounded late) : s.dropSource.Bounded late := by
  unfold State.dropSource
  dsimp only
  split
  · next c j _ =>
    have htag : (s.removeTag c j snapTag).Bounded late := h.setCam_kept c
    exact htag.setEngine _
  · exact h.setEngine _

theorem State.Bounded.settleAbort (h : s.Bounded late) : s.settleAbort.Bounded late := by
  unfold State.settleAbort
  split
  · split
    · exact h.dropSource.storeAborted
    · exact h
  · exact h

theorem State.Bounded.afterCopy (h : s.Bounded late) (d : Loaded) : (s.afterCopy d).Bounded late := by
  unfold State.afterCopy
  dsimp only
  split
  · exact State.Bounded.ite (h.setEngine _) (h.endRun _)
  · exact h.setEngine _

theorem State.Bounded.copyEnd (h : s.Bounded late) : s.copyEnd.Bounded late := by
  unfold State.copyEnd
  split
  · exact (h.dropSource.setEngine _).afterCopy _
  · exact h

theorem State.Bounded.burstWaitEnd (h : s.Bounded late) (c : CamId) : (s.burstWaitEnd c).Bounded late := by
  unfold State.burstWaitEnd
  split
  · exact h.endRun _
  · exact h

theorem State.Bounded.burstNextFrame (h : s.Bounded late) (c : CamId) (j : Nat) :
    (s.burstNextFrame c j).Bounded late := by
  unfold State.burstNextFrame
  split
  · split
    · exact h.startCopy ..
    · exact h
  · exact h

theorem State.Bounded.followLink (h : s.Bounded late) (target : DescId) :
    (s.followLink target).Bounded late := by
  unfold State.followLink
  dsimp only
  split
  · exact State.Bounded.chainEnd (h.report ..)
  · split
    · exact State.Bounded.chainEnd (h.report ..)
    · exact h.setEngine _

theorem State.Bounded.endEarly (h : s.Bounded late) (why : Ending) : (s.endEarly why).Bounded late := by
  unfold State.endEarly
  split
  · exact h.setEngine _
  · exact (h.setEngine _).settleAbort
  · exact (h.setEngine _).storeAborted
  · exact h

theorem State.Bounded.takeAbort (h : s.Bounded late) : s.takeAbort.Bounded late := by
  have habort : s.abortRun.Bounded late := by
    unfold State.abortRun
    split
    · exact h
    · split
      · exact h.setEngine _
      · exact h.endEarly _
  unfold State.takeAbort
  split
  · exact h.answer _ _
  · exact habort.answer _ _

theorem State.Bounded.engineRequest (h : s.Bounded late) (code : Byte) :
    (s.engineRequest code).Bounded late := by
  unfold State.engineRequest
  split; · exact (h.setEngine _).answer _ _
  split; · exact (h.setEngine _).answer _ _
  split
  · unfold State.takeStart
    dsimp only
    split
    · exact (h.setEngine _).answer _ _
    · exact h.answer _ _
  split
  · unfold State.takeSnapshotArm
    dsimp only
    split
    · exact (h.setEngine _).answer _ _
    · exact h.answer _ _
  split; · exact h.takeAbort
  exact h.answer _ _

theorem State.Bounded.stepLoad (h : s.Bounded late) : s.stepLoad.Bounded late := by
  unfold State.stepLoad
  split
  · split
    · next hready =>
      simp only [State.loadReady, Bool.and_eq_true] at hready
      exact (h.hand hready.2 _ _).setEngine _
    · exact h
  · exact h

theorem State.Bounded.loadReturn (h : s.Bounded late) (run : Nat) (d : Beat) :
    (s.loadReturn run d).Bounded late := by
  unfold State.loadReturn
  dsimp only
  split
  · split
    · exact (h.setEngine _).checkLoaded _
    · exact ((h.setEngine _).setEngine _).storeAborted
  · exact h

theorem State.Bounded.stepCopyRead (h : s.Bounded late) : s.stepCopyRead.Bounded late := by
  unfold State.stepCopyRead
  split
  · split
    · next hready =>
      obtain ⟨-, -, -, hroom⟩ := hready
      exact (h.hand hroom _ _).setEngine _
    · exact h
  · exact h

theorem State.Bounded.copyReadBack (h : s.Bounded late) (run : Nat) (d : Beat) :
    (s.copyReadBack run d).Bounded late := by
  unfold State.copyReadBack
  split
  · split
    · exact (h.setEngine _).settleAbort
    · exact h
  · exact h

theorem State.Bounded.stepCopyWrite (h : s.Bounded late) : s.stepCopyWrite.Bounded late := by
  unfold State.stepCopyWrite
  split
  · split
    · next hready =>
      obtain ⟨-, -, hroom⟩ := hready
      have hw := fun a op e => (h.hand hroom a op).setEngine e
      dsimp only
      split
      · exact (hw _ _ _).settleAbort
      · split
        · exact (hw _ _ _).copyEnd
        · exact hw _ _ _
    · exact h
  · exact h

theorem State.Bounded.stepArmWrite (h : s.Bounded late) : s.stepArmWrite.Bounded late := by
  unfold State.stepArmWrite
  split
  · split
    · next hroom => exact (h.hand hroom _ _).setEngine _
    · exact h
  · exact h

/-! ### The entrance lines (R71 to R79) -/

theorem State.Bounded.formEdge (h : s.Bounded late) (l : LineId) : (s.formEdge l).Bounded late :=
  (h.setLine l (Timer.ahead_none _ _ _)).trigger _

theorem State.Bounded.filterLine (h : s.Bounded late) (l : LineId) : (s.filterLine l).Bounded late := by
  unfold State.filterLine
  dsimp only
  split
  · exact h.setLine l (Timer.ahead_none _ _ _)
  · split
    · exact h.formEdge l
    · next hne =>
      obtain ⟨h0, hn⟩ := toNat_mem_of_ne_zero hne
      exact h.setLine l (Timer.ahead_timeAfter _ _ _ h0 hn)

theorem State.Bounded.pinChange (h : s.Bounded late) (l : LineId) (level : Bool) :
    (s.pinChange l level).Bounded late := (h.setLine_kept l).filterLine l

theorem State.Bounded.polarityChanges (h : s.Bounded late) (old : State) (ls : List LineId) :
    (s.polarityChanges old ls).Bounded late := by
  induction ls generalizing s with
  | nil => exact h
  | cons l rest ih =>
    refine ih ?_
    unfold State.polarityChange
    dsimp only
    split
    · exact h
    · exact (h.setLine_kept l).filterLine l

theorem State.Bounded.setUpLine (h : s.Bounded late) (l : LineId) (pin : Bool) :
    (s.setUpLine l pin).Bounded late := by
  have hl := h.setLine l (x := { s.line l with
    pin := pin
    raw := (s.line l).cfg.rawOf pin
    accepted := false
    filterTimer := none
    edges := 0
    rejected := 0 }) (Timer.ahead_none _ _ _)
  unfold State.setUpLine
  dsimp only
  split
  · exact hl.filterLine l
  · exact hl

theorem State.Bounded.setUpLines (h : s.Bounded late) (ls : List LineId) : (s.setUpLines ls).Bounded late := by
  induction ls generalizing s with
  | nil => exact h
  | cons l rest ih => exact ih (h.setUpLine l _)

theorem State.Bounded.powerOnLines (h : s.Bounded late) (pins : Vector Bool 4) (ls : List LineId) :
    (s.powerOnLines pins ls).Bounded late := by
  induction ls generalizing s with
  | nil => exact h
  | cons l rest ih => exact ih (h.setUpLine l _)

/-! ### The config page (R154, R155) -/

theorem State.Bounded.putSetting (h : s.Bounded late) (o : Nat) (b : Byte) :
    (s.putSetting o b).Bounded late := by
  unfold State.putSetting
  split
  · refine ⟨?_, h.queues, h.tables, h.timers⟩
    dsimp only [State.ringBounded]
    split
    · exact h.ring
    · exact h.ring
  · exact h.setCam_kept _
  · exact h.setScreen_kept _
  · exact h.setLine_kept _
  · exact h

theorem State.Bounded.mergeBytes (h : s.Bounded late) (o : Nat) (d : Beat) (en : Enables) (is : List Nat) :
    (s.mergeBytes o d en is).Bounded late := by
  induction is generalizing s with
  | nil => exact h
  | cons i rest ih =>
    refine ih ?_
    split
    · unfold State.mergeByte
      split
      · exact h
      · exact h.putSetting _ _
    · exact h

theorem State.Bounded.mergeConfig (h : s.Bounded late) (o : Nat) (d : Beat) (en : Enables) :
    (s.mergeConfig o d en).Bounded late := by
  have hp := (h.mergeBytes o d en (List.range 64)).polarityChanges s allLines
  unfold State.mergeConfig State.reportIgnored
  split
  · exact hp
  · exact hp.report ..

/-! ### The Lens Evaluator (R47 to R67) -/

theorem State.Bounded.modEval (h : s.Bounded late) (c : CamId) (f : Evaluator → Evaluator) :
    (s.modEval c f).Bounded late := h.setCam_kept c

theorem State.Bounded.clearTables (h : s.Bounded late) (c : CamId) : (s.clearTables c).Bounded late := by
  have hc := h.setCam_kept c
    (x := { s.cam c with eval := (s.cam c).eval.clear, mapCount := (s.cam c).mapCount + 1 })
  unfold State.clearTables
  dsimp only
  split
  · exact hc
  · exact hc.report ..

theorem State.Bounded.activate (h : s.Bounded late) (c : CamId) : (s.activate c).Bounded late := by
  unfold State.activate
  exact (h.clearTables c).modEval c _

theorem State.Bounded.learnStep (h : s.Bounded late) (c : CamId) (seq : BitVec 32) (v : FrameValues) :
    (s.learnStep c seq v).Bounded late := by
  unfold State.learnStep
  dsimp only
  split
  · exact (h.modEval c _).report ..
  · exact h.modEval c _

theorem State.Bounded.watchStep (h : s.Bounded late) (c : CamId) (seq : BitVec 32) (v : FrameValues) :
    (s.watchStep c seq v).Bounded late := by
  unfold State.watchStep
  dsimp only
  split
  · exact h.modEval c _
  · split
    · exact State.Bounded.trigger ((h.modEval c _).report ..) _
    · exact (h.modEval c _).report ..

theorem State.Bounded.evaluate (h : s.Bounded late) (c : CamId) (seq : BitVec 32) (v : FrameValues) :
    (s.evaluate c seq v).Bounded late := by
  unfold State.evaluate
  dsimp only
  split
  · split
    · exact (h.setCam_kept c).learnStep c seq v
    · exact (h.setCam_kept c).watchStep c seq v
    · exact h.setCam_kept c
  · exact h.setCam_kept c

theorem State.Bounded.countEligible (h : s.Bounded late) (c : CamId) (seq : BitVec 32) (v : FrameValues) :
    (s.countEligible c seq v).Bounded late := by
  unfold State.countEligible
  dsimp only
  split
  · exact (h.modEval c _).evaluate c seq v
  · exact h.modEval c _

theorem State.Bounded.countRestart (h : s.Bounded late) (c : CamId) : (s.countRestart c).Bounded late := by
  unfold State.countRestart
  dsimp only
  split
  · unfold State.endRestartWait
    split
    · exact (h.modEval c _).modEval c _
    · exact ((h.modEval c _).clearTables c).modEval c _
  · exact h.modEval c _

theorem State.Bounded.lensCompletion (h : s.Bounded late) (c : CamId) (seq : BitVec 32) (disordered : Bool)
    (v : FrameValues) : (s.lensCompletion c seq disordered v).Bounded late := by
  have hcount : (if disordered then s else s.countEligible c seq v).Bounded late := by
    split
    · exact h
    · exact h.countEligible c seq v
  unfold State.lensCompletion
  split
  · exact hcount
  · exact hcount
  · exact h.countRestart c
  · exact h

theorem State.Bounded.lensLost (h : s.Bounded late) (c : CamId) : (s.lensLost c).Bounded late := by
  unfold State.lensLost
  split
  · exact h
  · exact h.modEval c _
  · split
    · exact h.modEval c _
    · exact (h.clearTables c).modEval c _

theorem State.Bounded.lensOff (h : s.Bounded late) (c : CamId) : (s.lensOff c).Bounded late := by
  unfold State.lensOff
  split
  · exact h
  · exact (h.clearTables c).modEval c _

theorem State.Bounded.takeEvalRun (h : s.Bounded late) (c : CamId) : (s.takeEvalRun c).Bounded late := by
  have hm : (s.setMode c .run).Bounded late := h.modEval c _
  refine State.Bounded.answer ?_ _ _
  split
  · split
    · exact hm.activate c
    · exact hm
  · exact hm.modEval c _

theorem State.Bounded.takeEvalPause (h : s.Bounded late) (c : CamId) : (s.takeEvalPause c).Bounded late := by
  have hm : (s.setMode c .pause).Bounded late := h.modEval c _
  refine State.Bounded.answer ?_ _ _
  split
  · split
    · exact hm.activate c
    · exact hm
  · exact hm.modEval c _

theorem State.Bounded.relearn (h : s.Bounded late) (c : CamId) (st : EvState) : (s.relearn c st).Bounded late := by
  unfold State.relearn
  exact (h.clearTables c).modEval c _

theorem State.Bounded.takeRelearn (h : s.Bounded late) (c : CamId) : (s.takeRelearn c).Bounded late := by
  unfold State.takeRelearn
  split
  · exact h.answer _ _
  · exact h.answer _ _
  · exact (h.relearn c _).answer _ _
  · exact (h.relearn c _).answer _ _

/-! ### The Intake Tracker (R3 to R26) -/

/-- The timers of liveness started anew (R4). -/
theorem State.Bounded.startTimers (h : s.Bounded late) (c : CamId) {x : Camera}
    (hgap : (Timer.gap c).Ahead late s.timebase x.gapTimer) :
    (s.setCam c (x.startTimers s.timebase)).Bounded late := by
  refine h.setCam c ?_ ?_ hgap
  · unfold Camera.startTimers
    dsimp only
    split
    · obtain ⟨h0, hn⟩ := x.cfg.staleTime_mem
      exact Timer.ahead_timeAfter _ _ _ h0 hn
    · exact Timer.ahead_none _ _ _
  · obtain ⟨h0, hn⟩ := x.cfg.lostTime_mem
    exact Timer.ahead_timeAfter _ _ _ h0 hn

theorem State.Bounded.enterLive (h : s.Bounded late) (c : CamId) : (s.enterLive c).Bounded late := by
  unfold State.enterLive
  dsimp only
  split
  · exact h
  · exact State.Bounded.modEval ((h.setCam_kept c).report ..) c _

theorem State.Bounded.enterStale (h : s.Bounded late) (c : CamId) : (s.enterStale c).Bounded late := by
  have hc := h.setCam_kept c (x := { s.cam c with chan := .stale })
  exact ((State.Bounded.modEval (hc.report ..) c _).trigger _).burstWaitEnd c

theorem State.Bounded.enterLost (h : s.Bounded late) (c : CamId) : (s.enterLost c).Bounded late := by
  have hc := h.setCam_kept c (x := { s.cam c with chan := .lost })
  exact (State.Bounded.lensLost (hc.report ..) c).burstWaitEnd c

/-- The camera's part of what ends or takes on a frame: its liveness timers go on, and its gap timer is set anew. -/
theorem State.Bounded.setGap (h : s.Bounded late) (c : CamId) {x : Camera}
    (hgap : (Timer.gap c).Ahead late s.timebase x.gapTimer)
    (hstale : x.staleTimer = (s.cam c).staleTimer := by rfl)
    (hlost : x.lostTimer = (s.cam c).lostTimer := by rfl) : (s.setCam c x).Bounded late :=
  h.setCam c (hstale ▸ h.timers (.stale c)) (hlost ▸ h.timers (.lost c)) hgap

@[simp] theorem Camera.staleTimer_modTarget (x : Camera) (j : Option Nat) (f : Slot → Slot) :
    (x.modTarget j f).staleTimer = x.staleTimer := by cases j <;> rfl

@[simp] theorem Camera.lostTimer_modTarget (x : Camera) (j : Option Nat) (f : Slot → Slot) :
    (x.modTarget j f).lostTimer = x.lostTimer := by cases j <;> rfl

theorem State.Bounded.truncate (h : s.Bounded late) (c : CamId) (cause : TruncCause) :
    (s.truncate c cause).Bounded late := by
  unfold State.truncate
  dsimp only
  split
  · exact h
  · exact State.Bounded.report (h.setGap c (Timer.ahead_none _ _ _) (by simp) (by simp)) _ _ _ _

theorem Camera.timers_takeSlot (x : Camera) (j : Option Nat) (seq : BitVec 32) :
    (x.takeSlot j seq).timers = x.timers := by cases j <;> rfl

theorem State.Bounded.frameStart (h : s.Bounded late) (c : CamId) : (s.frameStart c).Bounded late := by
  have ht := h.truncate c .restarted
  unfold State.frameStart
  dsimp only
  split
  · refine State.Bounded.report (ht.setCam_kept c ?_) _ _ _ _
    exact Camera.timers_takeSlot ..
  · refine ht.setCam_kept c ?_
    exact Camera.timers_takeSlot ..

theorem State.Bounded.frameCompletion (h : s.Bounded late) (c : CamId) (r : IntakeRec) :
    (s.frameCompletion c r).Bounded late := by
  have hc : (s.setCam c ((s.cam c).complete r s.timebase)).Bounded late :=
    h.startTimers c (Timer.ahead_none _ _ _)
  unfold State.frameCompletion
  dsimp only
  cases r.target with
  | none => exact (hc.enterLive c).lensCompletion ..
  | some j => exact (((hc.releaseFallbacks c j allSets).enterLive c).lensCompletion ..).burstNextFrame c j

/-- A beat of a frame is stored only where the INTAKE queue has a place for it (R12, R158). -/
theorem State.Bounded.frameBeat (h : s.Bounded late) (c : CamId) (b : Nat) (d : Beat) (en : Enables)
    (hroom : ∀ r, (s.cam c).intake = some r → r.target.isSome = true → s.room .intake = true) :
    (s.frameBeat c b d en).Bounded late := by
  unfold State.frameBeat
  split
  · exact h
  · next r hr =>
    have hstore : (s.storeBeat c r.target b d en).Bounded late := by
      unfold State.storeBeat
      split
      · next j hj => exact h.hand (hroom r hr (by rw [hj]; rfl)) _ _
      · exact h
    have hnow : (s.storeBeat c r.target b d en).timebase = s.timebase :=
      congrArg Outer.timebase (State.outer_storeBeat ..)
    have hbeat : ((s.storeBeat c r.target b d en).setCam c
        ((s.cam c).afterBeat r b d en (s.storeBeat c r.target b d en).timebase)).Bounded late := by
      obtain ⟨h0, hn⟩ := (s.cam c).cfg.gapLimit_mem
      refine hstore.setGap c ?_ ?_ ?_
      · exact Timer.ahead_timeAfter _ _ _ h0 hn
      · rw [State.cam_storeBeat]
        exact Camera.staleTimer_modTarget ..
      · rw [State.cam_storeBeat]
        exact Camera.lostTimer_modTarget ..
    dsimp only
    split
    · exact hbeat.frameCompletion c _
    · exact hbeat

/-! ### Beats of an intake window that are stored (R8 to R12) -/

/-- A report reaches the REPORT queue alone. -/
theorem State.queue_handStaged_of_ne (s : State) (xs : List Record) {q : Queue} (hq : q ≠ .report) :
    (s.handStaged xs).queue q = s.queue q := by
  induction xs generalizing s with
  | nil => rfl
  | cons x rest ih =>
    rw [State.handStaged]
    split
    · rw [ih]
      exact (State.queue_hand ..).trans (if_neg hq)
    · rfl

theorem State.queue_report_of_ne (s : State) (k : Kind) (src : Nat) (d0 d1 : BitVec 32) {q : Queue}
    (hq : q ≠ .report) : (s.report k src d0 d1).queue q = s.queue q := by
  unfold State.report
  dsimp only
  split
  · rfl
  · exact State.queue_handStaged_of_ne _ _ hq

theorem State.queue_frameStart_of_ne (s : State) (c : CamId) {q : Queue} (hq : q ≠ .report) :
    (s.frameStart c).queue q = s.queue q := by
  have ht : (s.truncate c .restarted).queue q = s.queue q := by
    unfold State.truncate
    dsimp only
    split
    · rfl
    · exact State.queue_report_of_ne _ _ _ _ _ hq
  unfold State.frameStart
  dsimp only
  split
  · exact (State.queue_report_of_ne _ _ _ _ _ hq).trans ht
  · exact ht

/-- The camera with a frame in progress truncated (R16). -/
def Camera.cutShort (x : Camera) : Camera :=
  match x.intake with
  | none => x
  | some r =>
    { x.modTarget r.target Slot.truncate with
      truncated := (x.modTarget r.target Slot.truncate).truncated + 1
      intake := none
      gapTimer := none
      stats := (x.modTarget r.target Slot.truncate).stats.clearSums }

theorem State.cam_truncate_self (s : State) (c : CamId) (cause : TruncCause) :
    (s.truncate c cause).cam c = (s.cam c).cutShort := by
  unfold State.truncate Camera.cutShort
  dsimp only
  cases (s.cam c).intake with
  | none => rfl
  | some r => exact (State.cam_report ..).trans (State.cam_setCam_self ..)

/-- The camera as a frame start leaves it (R9, R10, R20). -/
def Camera.frameStarted (x : Camera) (now : Time) : Camera :=
  { x.cutShort.takeSlot x.cutShort.chooseSlot x.cutShort.nextSeq with
    started := x.cutShort.started + 1
    dropRun := x.cutShort.chooseSlot.isNone
    intake := some ⟨0, 0, x.cutShort.chooseSlot, false, x.cutShort.nextSeq, now⟩
    stats := x.cutShort.stats.clearSums }

theorem State.cam_frameStart_self (s : State) (c : CamId) :
    (s.frameStart c).cam c = (s.cam c).frameStarted s.timebase := by
  have hnow : (s.truncate c .restarted).timebase = s.timebase :=
    congrArg Outer.timebase (State.outer_truncate ..)
  unfold State.frameStart Camera.frameStarted
  dsimp only
  rw [← State.cam_truncate_self s c .restarted, ← hnow]
  split
  · rw [State.cam_reportDrop, State.cam_setCam_self]
  · rw [State.cam_setCam_self]

theorem State.intakeStores_writeDone (s : State) (p : PortTag) (c : CamId) (a : Nat) :
    (s.writeDone p).intakeStores c a = s.intakeStores c a := by
  have hidx : (s.writeDone p).intakeIndex c a = s.intakeIndex c a := rfl
  unfold State.intakeStores
  dsimp only
  rw [hidx, State.cam_frameStart_self, State.cam_frameStart_self, State.cam_writeDone, State.timebase_writeDone]

/-- A write beat of an intake window finds its place where one is needed (R158; log entry 6). -/
theorem State.Bounded.intakeWrite (h : s.Bounded late) (c : CamId) (a : Nat) (d : Beat) (en : Enables)
    (hroom : s.intakeStores c a = true → s.room .intake = true) : (s.intakeWrite c a d en).Bounded late := by
  unfold State.intakeStores at hroom
  unfold State.intakeWrite
  dsimp only at hroom ⊢
  split
  · exact h
  · next hb =>
    rw [if_neg hb] at hroom
    split
    · next h0 =>
      rw [if_pos h0] at hroom
      refine (h.frameStart c).frameBeat c 0 d en fun r hr ht => ?_
      rw [State.room, State.queue_frameStart_of_ne s c (by decide)]
      exact hroom (by rw [hr]; exact ht)
    · next h0 =>
      rw [if_neg h0] at hroom
      exact h.frameBeat c _ d en fun r hr ht => hroom (by rw [hr]; exact ht)

theorem State.Bounded.intakeRead (h : s.Bounded late) (c : CamId) (p : PortTag) (a : Nat)
    (hroom : (s.cam c).readSlot.isSome = true → s.room .intake = true) : (s.intakeRead c p a).Bounded late := by
  unfold State.intakeRead
  dsimp only
  split
  · exact h.answerRead ..
  · next j hj => exact (h.expectRead p).hand (hroom (by rw [hj]; rfl)) _ _

/-! ### Camera requests (R22 to R26) -/

theorem State.Bounded.takeArm (h : s.Bounded late) (c : CamId) : (s.takeArm c).Bounded late := by
  refine State.Bounded.answer ?_ _ _
  split
  · have ha := (h.startTimers c (x := (s.cam c).arm) (Timer.ahead_none _ _ _)).activate c
    exact ha.setCam_kept c
  · exact h

theorem State.Bounded.takeDisarm (h : s.Bounded late) (c : CamId) : (s.takeDisarm c).Bounded late := by
  refine State.Bounded.answer ?_ _ _
  split
  · have ht := h.truncate c .disarm
    have hd := ht.setCam c
      (x := { (s.truncate c .disarm).cam c with staleTimer := none, lostTimer := none, chan := .disarmed })
      (Timer.ahead_none _ _ _) (Timer.ahead_none _ _ _) (ht.timers (.gap c))
    exact (hd.lensOff c).burstWaitEnd c
  · exact h

theorem State.Bounded.takeSkip (h : s.Bounded late) (c : CamId) : (s.takeSkip c).Bounded late := by
  unfold State.takeSkip
  split
  · exact (h.truncate c .skip).answer _ _
  · exact h.answer _ _

theorem State.Bounded.takeReset (h : s.Bounded late) (c : CamId) : (s.takeReset c).Bounded late := by
  unfold State.takeReset
  split
  · have ht := h.truncate c .reset
    have hr := ht.startTimers c
      (x := { (s.truncate c .reset).cam c with chan := .waiting, dropRun := false }) (ht.timers (.gap c))
    exact (hr.activate c).answer _ _
  · exact h.answer _ _

theorem State.Bounded.cameraRequest (h : s.Bounded late) (c : CamId) (code : Byte) :
    (s.cameraRequest c code).Bounded late := by
  unfold State.cameraRequest
  split; · exact h.takeArm c
  split; · exact h.takeDisarm c
  split; · exact h.takeSkip c
  split; · exact h.takeReset c
  split; · exact h.takeEvalRun c
  split; · exact h.takeEvalPause c
  split; · exact State.Bounded.answer (State.Bounded.lensOff (h.modEval c _) c) _ _
  split; · exact h.takeRelearn c
  exact h.answer _ _

/-! ### Resets (R162, R167) -/

theorem State.Bounded.restartScreens (h : s.Bounded late) (old : State) (xs : List ScrId) :
    (s.restartScreens old xs).Bounded late := by
  have hentries (u : State) (hu : u.Bounded late) (before : SideFlags) (x : Screen) (es : List Entry) :
      (u.restartEntries before x es).Bounded late := by
    induction es generalizing u with
    | nil => exact hu
    | cons e rest ih => exact ih _ (hu.formReadWith ..)
  induction xs generalizing s with
  | nil => exact h
  | cons sc rest ih =>
    refine ih (hentries _ ?_ _ _ _)
    unfold State.dropCommit
    exact State.Bounded.ite (h.answerEnd _ _) h

theorem State.Bounded.restartAll (h : s.Bounded late) : s.restartAll.Bounded late := by
  have hb : s.restartBlocks.Bounded late := by
    refine ⟨?_, h.queues, fun sc => ?_, fun x => ?_⟩
    · simp [State.ringBounded, State.restartBlocks, Ring.restart, Ring.powerOn, Ring.occupancy, Ring.unconsumed]
    · simp [State.restartBlocks, State.screen, Screen.restart, Screen.powerOn]
    · cases x with
      | filter l => exact h.timers (.filter l)
      | stale | lost | gap | offset | cycle =>
        simp [State.restartBlocks, State.timer, State.cam, State.screen, Camera.restart, Camera.powerOn,
          Screen.restart, Screen.powerOn, Timer.ahead_none]
  exact (hb.setUpLines allLines).restartScreens s allScreens

/-- After a power-on reset every bound holds, whatever the state before (R162). -/
theorem State.bounded_powerOn (s : State) (straps : Straps) (pins : Pins) :
    (s.powerOn straps pins).Bounded late := by
  refine State.Bounded.powerOnLines ⟨?_, fun q => ?_, fun sc => ?_, fun x => ?_⟩ pins.entrance allLines
  · simp [State.ringBounded, Ring.powerOn, Ring.occupancy, Ring.unconsumed]
  · simp [State.queue, Arbiter.powerOn]
  · simp [State.screen, Screen.powerOn]
  · cases x <;>
      simp [State.timer, State.cam, State.line, State.screen, Camera.powerOn, Line.powerOnLow,
        Screen.powerOn, Timer.ahead_none]

theorem State.Bounded.stepWriteBack (h : s.Bounded late) : s.stepWriteBack.Bounded late := by
  unfold State.stepWriteBack
  split
  · split
    · next hready =>
      have hw := fun a op e => (h.hand hready.2 a op).setEngine e
      dsimp only
      split
      · exact (hw _ _ _).restartAll.answerEnd _ _
      · split
        · exact (hw _ _ _).followLink _
        · exact (hw _ _ _).chainEnd
    · exact h
  · exact h

theorem State.Bounded.takeRestart (h : s.Bounded late) : s.takeRestart.Bounded late := by
  unfold State.takeRestart
  split
  · exact h.answer _ _
  · split
    · exact (h.answerOpen _).endEarly _
    · exact h.restartAll.answer _ _

/-! ### Requests, the live page and the upstream port (R149, R163) -/

theorem State.Bounded.ownerRequest (h : s.Bounded late) (o : Owner) (code : Byte) :
    (s.ownerRequest o code).Bounded late := by
  cases o with
  | part => exact State.Bounded.ite h.takeRestart (h.answer _ _)
  | camera c => exact h.cameraRequest c code
  | screen sc =>
    exact State.Bounded.ite (h.takeEnable sc)
      (State.Bounded.ite (h.takeDisable sc) (State.Bounded.ite (h.takeCommit sc) (h.answer _ _)))
  | engine => exact h.engineRequest code

theorem State.Bounded.takeRequest (h : s.Bounded late) (o : Owner) (code : Byte) (f : ReqFields) :
    (s.takeRequest o code f).Bounded late :=
  State.Bounded.ite h ((h.setMailbox o _).ownerRequest o code)

theorem State.Bounded.requestAt (h : s.Bounded late) (o : Owner) (d : Beat) (en : Enables) (i : Nat) :
    (s.requestAt o d en i).Bounded late := by
  unfold State.requestAt
  split
  · exact h.takeRequest o _ _
  · exact h

theorem State.Bounded.requestsAt (h : s.Bounded late) (d : Beat) (en : Enables) (ws : List (Owner × Nat)) :
    (s.requestsAt d en ws).Bounded late := by
  induction ws generalizing s with
  | nil => exact h
  | cons w rest ih => exact ih (h.requestAt w.1 d en w.2)

theorem State.Bounded.liveWrite (h : s.Bounded late) (p : PortTag) (o : Nat) (d : Beat) (en : Enables) :
    (s.liveWrite p o d en).Bounded late := by
  have hw := h.writeDone p
  unfold State.liveWrite State.liveBytes
  dsimp only
  split
  · split
    · exact hw.writeConsumer _
    · exact hw
  · split
    · exact hw.requestAt _ _ _ _
    · split
      · exact hw.requestsAt _ _ _
      · exact hw

theorem State.Bounded.passRead (h : s.Bounded late) (hroom : s.room .pass = true) (p : PortTag) (a : Nat) :
    (s.passRead p a).Bounded late := (h.expectRead p).hand hroom _ _

theorem State.Bounded.passWrite (h : s.Bounded late) (hroom : s.room .pass = true) (p : PortTag) (a : Nat)
    (d : Beat) (en : Enables) : (s.passWrite p a d en).Bounded late := (h.writeDone p).hand hroom _ _

theorem State.Bounded.pass (h : s.Bounded late) (hroom : s.room .pass = true) (p : PortTag) (a : Nat)
    (op : BeatOp) : (s.pass p a op).Bounded late := by
  cases op with
  | read => exact h.passRead hroom p a
  | write d en => exact h.passWrite hroom p a d en

theorem State.Bounded.liveRead (h : s.Bounded late) (p : PortTag) (o : Nat) : (s.liveRead p o).Bounded late := by
  have hseen (u : State) (hu : u.Bounded late) (a : Attention) (n : Nat) :
      State.Bounded late { u with attention := a, liveReads := n } := hu.congr
  exact hseen _ (h.answerRead p _) _ _

theorem State.Bounded.mergeDescriptor (h : s.Bounded late) (o : Nat) (d : Beat) (en : Enables) :
    (s.mergeDescriptor o d en).Bounded late := h.setEngine _

/-- A beat is accepted only where it can be taken: each class has the place that it needs (R149, R158). -/
theorem State.Bounded.acceptClass (h : s.Bounded late) (cl : Class) (p : PortTag) (a : Nat) (op : BeatOp)
    (hroom : s.roomFor cl a op = true) : (s.acceptClass cl p a op).Bounded late := by
  cases cl with
  | config =>
    cases op with
    | read => exact h.passRead hroom p a
    | write d en => exact (h.passWrite hroom p a d en).mergeConfig _ d en
  | descriptor =>
    cases op with
    | read => exact h.passRead hroom p a
    | write d en => exact (h.passWrite hroom p a d en).mergeDescriptor _ d en
  | live =>
    cases op with
    | read => exact h.liveRead p _
    | write d en => exact h.liveWrite p _ d en
  | ring => exact h.pass hroom p a op
  | plain => exact h.pass hroom p a op
  | intake c =>
    cases op with
    | read =>
      refine h.intakeRead c p a fun hs => ?_
      simpa [State.roomFor, ← Option.not_isSome, hs] using hroom
    | write d en =>
      refine (h.writeDone p).intakeWrite c a d en fun hs => ?_
      rw [State.intakeStores_writeDone] at hs
      simpa [State.roomFor, hs] using hroom
  | screen sc =>
    cases op with
    | read => exact h.screenRead (of_decide_eq_true hroom) p _
    | write d en => exact (h.writeDone p).screenWrite sc _
  | intakeOff c | screenOff sc =>
    cases op with
    | read => exact h.answerRead p _
    | write d en => exact h.writeDone p

theorem State.Bounded.acceptItem (h : s.Bounded late) (i : UpItem) (htake : s.canTake i = true) :
    (s.acceptItem i).Bounded late := by
  cases i with
  | beat p a op => exact h.acceptClass _ p _ op htake
  | request p o code f => exact (h.writeDone p).takeRequest o code f
  | consumer p v => exact (h.writeDone p).writeConsumer v

theorem State.Bounded.present (h : s.Bounded late) (i : UpItem) : (s.present i).Bounded late := by
  unfold State.present
  split
  · next htake => exact h.acceptItem i (Bool.and_eq_true _ _ ▸ htake).2
  · exact h.congr

theorem State.Bounded.drain (h : s.Bounded late) (is : List UpItem) : (s.drain is).Bounded late := by
  induction is generalizing s with
  | nil => exact h.congr
  | cons i rest ih =>
    unfold State.drain
    split
    · next htake => exact ih (h.acceptItem i htake)
    · exact h.congr

theorem State.Bounded.settle (h : s.Bounded late) : s.settle.Bounded late := h.drain _

/-! ### Grants and returns (R159) -/

theorem State.Bounded.grant (h : s.Bounded late) : s.grant.Bounded late := by
  unfold State.grant
  split
  · next q b _ =>
    have hleave : (s.leave q).Bounded late := by
      refine ⟨h.ring, fun r => ?_, h.tables, h.timers⟩
      by_cases hr : r = q
      · subst hr
        have ht : (s.leave r).queue r = (s.queue r).tail := by simp [State.leave, State.queue]
        rw [ht, List.length_tail]
        exact (Nat.sub_le ..).trans (h.queues r)
      · have hk : (s.leave q).queue r = s.queue r :=
          Vector.getElem_set_ne q.idx.isLt r.idx.isLt fun e => hr (Queue.idx_inj (Fin.ext e)).symm
        rw [hk]
        exact h.queues r
    unfold State.send
    split <;> exact hleave.congr
  · exact h

theorem State.Bounded.passReturn (h : s.Bounded late) : s.passReturn.Bounded late := by
  unfold State.passReturn
  split
  · exact h.popRead.formRead _ _
  · exact h

theorem State.Bounded.intakeReturn (h : s.Bounded late) : s.intakeReturn.Bounded late := by
  unfold State.intakeReturn
  split
  · exact h.popRead.formRead _ _
  · exact h

theorem State.Bounded.composeReturn (h : s.Bounded late) : s.composeReturn.Bounded late := by
  unfold State.composeReturn
  split
  · exact h.popRead.fetchReturn _ _
  · exact h

theorem State.Bounded.descReturn (h : s.Bounded late) : s.descReturn.Bounded late := by
  unfold State.descReturn
  split
  · exact h.popRead.loadReturn _ _
  · exact h

theorem State.Bounded.copyReturn (h : s.Bounded late) : s.copyReturn.Bounded late := by
  unfold State.copyReturn
  split
  · exact h.popRead.copyReadBack _ _
  · exact h

end

/-! ### The timers of a tick (R162) -/

section
variable {late : List Timer} {s : State}

/-- A timer that runs out is idle, or set to a later moment, before anything follows from it (R3, R14, R74, R87,
R88). -/
theorem State.Bounded.runOut {x : Timer} (h : s.Bounded (x :: late)) : (s.runOut x).Bounded late := by
  cases x with
  | stale c =>
    have hc : (s.setCam c { s.cam c with staleTimer := none }).Bounded late := by
      refine State.Bounded.drop (h.setCam c (Timer.ahead_none _ _ _) (h.timers (.lost c)) (h.timers (.gap c))) ?_
      simp [State.timer]
    exact State.Bounded.ite (hc.enterStale c) hc
  | lost c =>
    have hc : (s.setCam c { s.cam c with lostTimer := none, staleTimer := none }).Bounded late := by
      refine State.Bounded.drop (h.setCam c (Timer.ahead_none _ _ _) (Timer.ahead_none _ _ _)
        (h.timers (.gap c))) ?_
      simp [State.timer]
    exact State.Bounded.ite (hc.enterLost c) hc
  | gap c =>
    have hc : (s.setCam c { s.cam c with gapTimer := none }).Bounded late := by
      refine State.Bounded.drop (h.setGap c (Timer.ahead_none _ _ _)) ?_
      simp [State.timer]
    exact hc.truncate c .gap
  | filter l =>
    have hl (y : Line) (hy : y.filterTimer = none) : (s.setLine l y).Bounded late := by
      refine State.Bounded.drop (h.setLine l (hy ▸ Timer.ahead_none _ _ _)) ?_
      simp [State.timer, hy]
    exact State.Bounded.ite (hl _ rfl) ((hl _ rfl).trigger _)
  | offset sc =>
    have hs : (s.setScreen sc { s.screen sc with offsetTimer := none }).Bounded late := by
      refine State.Bounded.drop (h.setScreen sc (h.tables sc) (Timer.ahead_none _ _ _)
        (h.timers (.cycle sc))) ?_
      simp [State.timer]
    exact hs.latchDue sc
  | cycle sc =>
    obtain ⟨h0, hn⟩ := (s.screen sc).cfg.periodUsed_mem
    have hs : (s.setScreen sc { s.screen sc with
        cycleTimer := some (timeAfter s.timebase (s.screen sc).cfg.periodUsed) }).Bounded late := by
      refine State.Bounded.drop (h.setScreen sc (h.tables sc) (h.timers (.offset sc))
        (Timer.ahead_timeAfter _ _ _ h0 hn)) ?_
      simpa [State.timer] using timeAfter_ne s.timebase h0 hn
    exact hs.latchDue sc

theorem State.Bounded.expire {x : Timer} (h : s.Bounded (x :: late)) : (s.expire x).Bounded late := by
  unfold State.expire
  split
  · exact h.runOut.settle
  · next hdue => exact h.drop (by simpa [timerDue] using hdue)

theorem State.Bounded.expireAll {xs : List Timer} (h : s.Bounded xs) : (s.expireAll xs).Bounded [] := by
  induction xs generalizing s with
  | nil => exact h
  | cons x rest ih => exact ih h.expire

/-- With no timer at its expiry the Timebase goes on, and none is past (R162; log entry 4). -/
theorem State.Bounded.tick (h : s.Bounded []) :
    State.Bounded allTimers { s with timebase := s.timebase + 1, cams := s.cams.map Camera.momentOver } := by
  refine ⟨h.ring, h.queues, h.tables, fun x e he => ⟨?_, fun _ => mem_allTimers x⟩⟩
  have hx : s.timer x = some e := by
    rw [← he]
    cases x <;> simp [State.timer, State.cam, State.line, State.screen, Camera.momentOver]
  obtain ⟨hlt, hnow⟩ := h.timers x e hx
  have hne : e ≠ s.timebase := fun heq => List.not_mem_nil (hnow heq)
  show (e - (s.timebase + 1)).toNat < 2 ^ 31
  generalize s.timebase = now at *
  bv_omega

end

/-! ### One step -/

/-- Every command answers a next state within the bounds. -/
theorem exec_keeps_bounded {s : State} (h : s.Bounded allTimers) (i : Instr) :
    Gives i s (State.Bounded allTimers) := by
  have hexpire (x : Timer) : (s.expire x).Bounded allTimers :=
    (h.mono (List.subset_cons_self x allTimers)).expire
  cases i with
  | powerOnReset straps pins => exact ⟨_, rfl, State.bounded_powerOn s straps pins⟩
  | timebaseTick => exact ⟨_, rfl, h.expireAll.tick⟩
  | entrancePinChange l level => exact ⟨_, rfl, State.Bounded.ite h (h.pinChange l level).settle⟩
  | syncLineChange sc level => exact ⟨_, rfl, State.Bounded.ite h (h.syncChange sc level).settle⟩
  | staleTimerExpiry | lostTimerExpiry | gapTimerExpiry | filterTimerExpiry | offsetTimerExpiry
  | cycleTimerExpiry => exact ⟨_, rfl, hexpire _⟩
  | intakeWriteBeat | intakeReadBeat | intakeOffBeat | screenReadBeat | screenWriteBeat
  | screenOffBeat | plainBeat | configWrite | descriptorWrite | attentionSummaryRead
  | consumerIndexWrite | liveWriteAbsorbed | unknownCode | restart | restartWaitIdle | arm | disarm
  | skip | reset | evalRun | evalPause | evalStop | relearn | enable | disable | commit
  | engineEnable | engineDisable | start | snapshotArm | abort => exact ⟨_, rfl, h.present _⟩
  | arbiterGrant => exact ⟨_, rfl, h.grant.settle⟩
  | intakeReadReturn => exact ⟨_, rfl, h.intakeReturn.settle⟩
  | passReadReturn => exact ⟨_, rfl, h.passReturn.settle⟩
  | composerFetchHanding => exact ⟨_, rfl, h.handNextFetch.settle⟩
  | composerFetchReturn => exact ⟨_, rfl, h.composeReturn.settle⟩
  | descriptorLoad => exact ⟨_, rfl, h.stepLoad.settle⟩
  | descriptorLoadReturn => exact ⟨_, rfl, h.descReturn.settle⟩
  | copyRead => exact ⟨_, rfl, h.stepCopyRead.settle⟩
  | copyReadReturn => exact ⟨_, rfl, h.copyReturn.settle⟩
  | copyWrite => exact ⟨_, rfl, h.stepCopyWrite.settle⟩
  | descriptorWriteBack => exact ⟨_, rfl, h.stepWriteBack.settle⟩
  | armWrite => exact ⟨_, rfl, h.stepArmWrite.settle⟩
  | reportHanding => exact ⟨_, rfl, h.handNextRecord.settle⟩

/-- Settles O55: a beat is handed and an entry added only where there is a place, a report only where the ring has
one, and a timer is set only to a later moment, so that a tick passes none. -/
theorem stepKeepsBounds : Obligations.StepKeepsBounds := by
  unfold Obligations.StepKeepsBounds
  intro s t hs hstep
  rw [← State.bounded_allTimers_iff] at hs ⊢
  cases hp : s.pending with
  | nil =>
    rw [step_nil s hp] at hstep
    cases hstep
    exact hs
  | cons i rest =>
    rw [step_cons s i rest hp] at hstep
    obtain ⟨u, hu, hbounded⟩ := exec_keeps_bounded (s := { s with pending := rest }) hs.congr i
    rw [hu] at hstep
    cases hstep
    exact hbounded

end Sys2Proof.Machine

/-!
The plan of a beat (R105 to R115): which pane covers a macropixel, what it shows there, and the source beats that a
plan names.
-/
namespace Sys2Proof.Machine

-- One theorem after another: each waits for the kernel's check of those before it.
set_option Elab.async false

/-! ### The covering pane (R84, R106, R107) -/

theorem Pane.camId_eq_some_iff (p : Pane) (c : CamId) : p.camId = some c ↔ p.camera.toNat % 8 = c.val := by
  unfold Pane.camId
  dsimp only
  split
  · simp [Fin.ext_iff]
  · next h =>
    have := c.isLt
    simp only [reduceCtorEq, false_iff]
    omega

theorem Pane.drawn_eq_some_iff (p : Pane) (c : CamId) : p.drawn = some c ↔ p.draws c := by
  unfold Pane.drawn Pane.draws
  split
  · next h => exact (p.camId_eq_some_iff c).trans (and_iff_left h).symm
  · next h => exact iff_of_false nofun fun hd => h hd.2

theorem Pane.holds_iff_spans (p : Pane) (x y : Nat) : p.holds x y = true ↔ p.spans x y := by
  simp only [Pane.holds, Bool.and_eq_true, decide_eq_true_eq, and_assoc]
  rfl

/-- The pane with its camera where it is drawn and covers the pixel (R107). -/
def Pane.covering (p : Pane) (x y : Nat) : Option (Pane × CamId) :=
  if p.holds x y then p.drawn.map fun c => (p, c) else none

theorem Pane.covering_eq_some {p : Pane} {x y : Nat} {c : CamId} (hs : p.spans x y) (hd : p.draws c) :
    p.covering x y = some (p, c) := by
  rw [Pane.covering, if_pos ((p.holds_iff_spans x y).mpr hs), (p.drawn_eq_some_iff c).mpr hd]
  rfl

theorem Pane.covering_eq_none {p : Pane} {x y : Nat} (h : ¬((∃ c, p.draws c) ∧ p.spans x y)) :
    p.covering x y = none := by
  unfold Pane.covering
  split
  · next hs =>
    rw [Option.map_eq_none_iff, Option.eq_none_iff_forall_ne_some]
    exact fun c hc => h ⟨⟨c, (p.drawn_eq_some_iff c).mp hc⟩, (p.holds_iff_spans x y).mp hs⟩
  · rfl

theorem Layout.lt_used_iff (l : Layout) (n : Nat) : n < l.used ↔ n < 8 ∧ n < l.count.toNat := by
  unfold Layout.used
  split <;> omega

/-- The entries in use, by index (R84). -/
theorem Layout.getElem?_entries (l : Layout) (n : Nat) :
    l.entries[n]? = if h : n < 8 then if n < l.count.toNat then some l.panes[n] else none else none := by
  unfold Layout.entries
  rw [List.getElem?_take]
  split
  · next hn =>
    obtain ⟨h8, hc⟩ := (l.lt_used_iff n).mp hn
    rw [dif_pos h8, if_pos hc]
    simp [h8]
  · next hn =>
    split
    · next h8 => rw [if_neg fun hc => hn ((l.lt_used_iff n).mpr ⟨h8, hc⟩)]
    · rfl

theorem Layout.entries_of_lt {l : Layout} {i : Fin 8} (h : i.val < l.count.toNat) :
    l.entries[i.val]? = some l.panes[i] := by
  rw [Layout.getElem?_entries, dif_pos i.isLt, if_pos h]
  rfl

/-- A pane entry in use that does not cover the pixel, by its index. -/
theorem Layout.covering_eq_none {l : Layout} {x y n : Nat} {p : Pane} (hp : l.entries[n]? = some p)
    (h : ∀ k : Fin 8, k.val = n → ¬l.coveredBy x y k) : p.covering x y = none := by
  rw [Layout.getElem?_entries] at hp
  split at hp
  · next h8 =>
    split at hp
    · next hc =>
      obtain rfl : l.panes[n] = p := Option.some.inj hp
      exact Pane.covering_eq_none fun hcov => h ⟨n, h8⟩ rfl ⟨hc, hcov⟩
    · cases hp
  · cases hp

theorem Layout.cover_eq_none {l : Layout} {x y : Nat} (h : ∀ i, ¬l.coveredBy x y i) : l.cover x y = none := by
  refine List.findSome?_eq_none_iff.mpr fun p hp => ?_
  obtain ⟨n, hn⟩ := List.mem_iff_getElem?.mp (List.mem_reverse.mp hp)
  exact Layout.covering_eq_none hn fun k _ => h k

/-- The drawn pane with the highest index that covers the pixel is found first (R107). -/
theorem Layout.cover_eq_some {l : Layout} {x y : Nat} {i : Fin 8} {c : CamId} (hi : l.coveredBy x y i)
    (hmax : ∀ k, i < k → ¬l.coveredBy x y k) (hd : l.panes[i].draws c) :
    l.cover x y = some (l.panes[i], c) := by
  obtain ⟨hlt, -, hspans⟩ := hi
  obtain ⟨hn, hat⟩ := List.getElem?_eq_some_iff.mp (Layout.entries_of_lt hlt)
  have hsplit : l.entries.reverse =
      (l.entries.drop (i.val + 1)).reverse ++ l.panes[i] :: (l.entries.take i.val).reverse := by
    rw [← hat]
    conv_lhs => rw [← List.take_append_drop i.val l.entries, List.drop_eq_getElem_cons hn]
    simp
  refine List.findSome?_eq_some_iff.mpr ⟨_, _, _, hsplit, Pane.covering_eq_some hspans hd, fun p hp => ?_⟩
  obtain ⟨m, hm⟩ := List.mem_iff_getElem?.mp (List.mem_reverse.mp hp)
  rw [List.getElem?_drop] at hm
  exact Layout.covering_eq_none hm fun k hk => hmax k (by omega)

/-! ### What a covering pane shows (R108 to R114) -/

theorem Pane.inBand_eq_borders (p : Pane) (w dx dy : Nat) : p.inBand w dx dy = p.borders w dx dy := by
  simp only [Pane.inBand, Pane.borders, Bool.decide_or, Bool.or_assoc]
  rfl

theorem Pane.decimation_eq_decimated (b : Byte) : Pane.decimation b = decimated b := by
  unfold Pane.decimation decimated clamp
  split
  · omega
  · split <;> omega

theorem Camera.sources_sourceAt (x : Camera) (c : CamId) (j sx sy : Nat) (swap : Bool) :
    x.sources c j sx sy swap (x.sourceAt c j sx sy swap) := by
  have hstride : x.geom.stride = (x.geom.w * x.geom.h * 2 + 4095) / 4096 * 4096 := by
    rw [CamGeom.stride, roundUp, CamGeom.frameBytes, Nat.add_sub_assoc (by decide)]
  rw [Camera.sources, ← hstride]
  rfl

/-- A picture macropixel comes from the primary where it holds the line, else from the fallback, else it is the
background colour (R114). -/
theorem Camera.pictures_picture (x : Camera) (c : CamId) (e : CamEntry) (background : Macropixel)
    (sx sy : Nat) (swap : Bool) :
    x.pictures c e background sx sy swap (x.picture c e background sx sy swap) := by
  intro j q hj hq
  have hslot : x.slot j = q := by rw [Camera.slot, List.getD_eq_getElem?_getD, hq]; rfl
  rw [Camera.picture, hj]
  dsimp only
  rw [hslot]
  cases hcontent : q.content with
  | free => trivial
  | ready a b =>
    rw [Slot.lines, hcontent]
    exact x.sources_sourceAt ..
  | filling a n | torn a n =>
    rw [Slot.lines, hcontent]
    dsimp only
    split
    · exact x.sources_sourceAt ..
    · cases e.fallback with
      | some f => exact x.sources_sourceAt ..
      | none => rfl

/-- The cases of R108 in their order, told by the model's own pane fields. -/
theorem State.paneShows_iff (s : State) (hs : HoldSet) (x y : Nat) (p : Pane) (c : CamId) (e : CamEntry)
    (it : PlanItem) :
    s.paneShows hs x y p c e it ↔
      if e.overlay = .fill then it = .colour hs.lost
      else if p.inBand hs.border (x - p.px) (y - p.py) ∧ e.overlay = .stale then it = .colour hs.stale
      else if p.inBand hs.border (x - p.px) (y - p.py) ∧ e.overlay = .warn ∧ p.warns then it = .colour hs.warn
      else
        let at' := p.sourceOf (s.cam c).geom (x - p.px) (y - p.py)
        (s.cam c).pictures c e hs.background at'.1 at'.2 p.mirror it := by
  simp only [State.paneShows, Pane.inBand_eq_borders, ← Pane.decimation_eq_decimated]
  rfl

theorem State.planItem_of_cover {s : State} {hs : HoldSet} {x y : Nat} {p : Pane} {c : CamId} {e : CamEntry}
    (hcover : hs.layout.cover x y = some (p, c)) (hcam : hs.cams[c] = some e) :
    s.planItem hs x y =
      if e.overlay = .fill then .colour hs.lost
      else if p.inBand hs.border (x - p.px) (y - p.py) ∧ e.overlay = .stale then .colour hs.stale
      else if p.inBand hs.border (x - p.px) (y - p.py) ∧ e.overlay = .warn ∧ p.warns then .colour hs.warn
      else
        let at' := p.sourceOf (s.cam c).geom (x - p.px) (y - p.py)
        (s.cam c).picture c e hs.background at'.1 at'.2 p.mirror := by
  rw [State.planItem, hcover]
  dsimp only
  rw [hcam]

/-- The first of the cases of R108 that applies decides what the covering pane shows. -/
theorem State.paneShows_planItem {s : State} {hs : HoldSet} {x y : Nat} {p : Pane} {c : CamId} {e : CamEntry}
    (hcover : hs.layout.cover x y = some (p, c)) (hcam : hs.cams[c] = some e) :
    s.paneShows hs x y p c e (s.planItem hs x y) := by
  rw [State.paneShows_iff, State.planItem_of_cover hcover hcam]
  split_ifs
  · rfl
  · rfl
  · rfl
  · exact (s.cam c).pictures_picture c e hs.background _ _ _

theorem State.itemShows_planItem (s : State) (hs : HoldSet) (x y : Nat) :
    s.itemShows hs x y (s.planItem hs x y) := by
  constructor
  · intro hnone
    rw [State.planItem, Layout.cover_eq_none hnone]
  · intro i c e hi hmax hdraws hcam
    exact State.paneShows_planItem (Layout.cover_eq_some hi hmax hdraws) hcam

/-- A beat in the padding is background throughout; in the image its macropixels are those of its line, from the
beat's first on (R105). -/
theorem State.planShown_plan (s : State) (g : ScrGeom) (hs : HoldSet) (o : Nat) :
    s.planShown g hs o (s.plan g hs o) := by
  have hbytes : g.bytes = g.ws * g.hs * 2 := rfl
  refine ⟨s.length_plan g hs o, ?_⟩
  unfold State.plan
  rw [hbytes]
  split
  · exact fun it hit => List.eq_of_mem_replicate hit
  · intro i it hi
    rw [List.getElem?_map, Option.map_eq_some_iff] at hi
    obtain ⟨k, hk, rfl⟩ := hi
    obtain rfl : i = k := by
      obtain ⟨hlt, hat⟩ := List.getElem?_eq_some_iff.mp hk
      rwa [List.getElem_range] at hat
    exact s.itemShows_planItem hs _ _

/-! ### The source beats a plan names (R115) -/

theorem mem_distinct {α : Type} [DecidableEq α] {b : α} (xs seen : List α) :
    b ∈ distinct xs seen ↔ b ∈ xs ∧ b ∉ seen := by
  induction xs generalizing seen with
  | nil => simp [distinct]
  | cons a rest ih =>
    unfold distinct
    split
    · next ha =>
      rw [ih, List.mem_cons, and_congr_left_iff]
      exact fun hb => ⟨.inr, fun h => h.resolve_left fun hba => hb (hba ▸ ha)⟩
    · next ha =>
      rw [List.mem_cons, ih, List.mem_cons, List.mem_cons]
      by_cases hba : b = a
      · simp [hba, ha]
      · simp [hba]

theorem nodup_distinct {α : Type} [DecidableEq α] (xs seen : List α) : (distinct xs seen).Nodup := by
  induction xs generalizing seen with
  | nil => exact List.nodup_nil
  | cons a rest ih =>
    unfold distinct
    split
    · exact ih seen
    · exact List.nodup_cons.mpr ⟨fun h => ((mem_distinct ..).mp h).2 List.mem_cons_self, ih _⟩

/-- What comes first is named first: more members do not change the order of those before them. -/
theorem distinct_prefix_append {α : Type} [DecidableEq α] (xs more seen : List α) :
    distinct xs seen <+: distinct (xs ++ more) seen := by
  induction xs generalizing seen with
  | nil => exact List.nil_prefix
  | cons a rest ih =>
    rw [List.cons_append]
    unfold distinct
    split
    · exact ih seen
    · exact List.prefix_cons_inj a |>.mpr (ih _)

theorem PlanItem.beat_eq_some_iff (it : PlanItem) (b : CamId × Nat × Nat) :
    it.beat = some b ↔ ∃ src, it = .source src none ∧ b = (src.cam, src.slot, src.addr / 64 * 64) := by
  unfold PlanItem.beat
  split
  · simp [eq_comm]
  · next hne => exact iff_of_false nofun fun ⟨src, hsrc, _⟩ => hne src hsrc

theorem beatsNamed_planBeats : beatsNamed planBeats := by
  intro plan
  refine ⟨nodup_distinct .., fun b => ?_, fun more => ?_⟩
  · simp only [planBeats, mem_distinct, List.not_mem_nil, not_false_eq_true, and_true, List.mem_filterMap,
      PlanItem.beat_eq_some_iff]
    exact ⟨fun ⟨it, hit, src, hsrc, hb⟩ => ⟨src, hsrc ▸ hit, hb⟩, fun ⟨src, hit, hb⟩ => ⟨_, hit, src, rfl, hb⟩⟩
  · rw [planBeats, planBeats, List.filterMap_append]
    exact distinct_prefix_append ..

/-! ### The read beat that fetches (R104, R115) -/

/-- Composed with a source beat to fetch, an entry is FETCHING and its fetches are sent (R115). -/
theorem Composed.fetches {s t : State} {x : ScrId} {hs : HoldSet} {e : Entry} (h : Composed s t x hs e)
    (hne : planBeats (s.plan (s.screen x).geom hs e.offset) ≠ []) :
    t.screens = (s.setScreen x
        { s.screen x with
          table := (s.screen x).table.map fun q =>
            if q.id = e.id then
              { q with
                state := .fetching .active (s.plan (s.screen x).geom hs e.offset)
                  (planBeats (s.plan (s.screen x).geom hs e.offset)).length }
            else q }).screens ∧
      FetchesSent s t (s.fetchWait ++
        (planBeats (s.plan (s.screen x).geom hs e.offset)).map fun b => ⟨x, e.id, b.1, b.2.1, b.2.2⟩) ∧
      t = { s with screens := t.screens, arb := t.arb, fetchWait := t.fetchWait } := by
  unfold Composed at h
  dsimp only at h
  rwa [if_neg (by simpa using hne), List.length_map] at h

theorem State.screens_setScreen_of_eq {u s : State} {x : ScrId} {y z : Screen}
    (h : u.screens = (s.setScreen x y).screens) : (u.setScreen x z).screens = (s.setScreen x z).screens := by
  rw [← s.setScreen_setScreen x y z, State.setScreen, h]
  rfl

section
variable {s : State} {p : PortTag} {x : ScrId} {a : Addr} {hs : HoldSet}

theorem State.addEntry_readSeen :
    (s.readSeen x a).addEntry x p (beatBase a - (s.screen x).geom.base) =
      { s.setScreen x { Claim.seen s x a with table := (s.screen x).table ++ [Claim.arrived s p x a] } with
        port := s.port.accept p false [none]
        nextEntry := s.nextEntry + 1 } := by
  rw [State.addEntry_eq, State.screen_readSeen, State.readSeen, State.setScreen_setScreen]
  rfl

/-- Where no latch falls due and none is owed, a RUNNING screen composes the entry of the beat (R104, step 5). -/
theorem exec_screenReadBeat_of_running (h : Claim.reads s x a)
    (hnot : ¬(s.screen x).readDue (((Claim.seen s x a).lastLine).getD 0))
    (hkept : (s.screen x).geom.mode = .readStart → (s.screen x).owed = false)
    (hstate : (s.screen x).state = .running) (hactive : (s.screen x).active = some hs) :
    exec (.screenReadBeat p a) s =
      .next (((s.readSeen x a).addEntry x p (beatBase a - (s.screen x).geom.base)).composeEntry x hs
        (Claim.arrived s p x a)) := by
  rw [← Screen.readLatches_iff] at hnot
  obtain ⟨-, -, -, hids⟩ := id h
  have howed : ¬((Claim.seen s x a).geom.mode = .readStart ∧ (Claim.seen s x a).owed = true) := by
    rintro ⟨hm, ho⟩
    exact Bool.false_ne_true ((hkept hm).symm.trans ho)
  rw [exec_screenReadBeat h, if_neg hnot,
    State.serveRead_of_running (hs := hs) (by rwa [State.screen_readSeen]) (by rwa [State.screen_readSeen])
      (by rwa [State.screen_readSeen]) (by rwa [State.screen_readSeen])]
  rfl

end

/-- The entry of the beat is composed in the table it has joined, where its number is not in use yet. -/
theorem readFetches : Claim.ReadFetches := by
  intro s p x a hs h hnot hkept hstate hactive hwait
  dsimp only
  intro hne
  obtain ⟨-, -, -, hids⟩ := id h
  have hexec := exec_screenReadBeat_of_running (p := p) h hnot hkept hstate hactive
  obtain ⟨v, hv⟩ : ∃ v, (s.readSeen x a).addEntry x p (beatBase a - (s.screen x).geom.base) = v := ⟨_, rfl⟩
  obtain ⟨t, ht⟩ : ∃ t, v.composeEntry x hs (Claim.arrived s p x a) = t := ⟨_, rfl⟩
  rw [hv, ht] at hexec
  rw [State.addEntry_readSeen] at hv
  have hscreen : v.screen x =
      { Claim.seen s x a with table := (s.screen x).table ++ [Claim.arrived s p x a] } := by
    rw [← hv]
    exact State.screen_setScreen_self ..
  have hplan : v.plan (v.screen x).geom hs (Claim.arrived s p x a).offset =
      s.plan (s.screen x).geom hs (Claim.arrived s p x a).offset := by
    rw [hscreen, ← hv]
    rfl
  have hcomposed := v.composed_composeEntry x hs (Claim.arrived s p x a)
  rw [ht] at hcomposed
  obtain ⟨hscreens, hsent, hrest⟩ := hcomposed.fetches (by rwa [hplan])
  rw [hplan] at hscreens hsent
  refine ⟨t, hexec, ?_, ?_, ?_⟩
  · have htable := map_entry (pre := (s.screen x).table) (post := []) (e := Claim.arrived s p x a)
      (fun q => { q with
        state := .fetching .active (s.plan (s.screen x).geom hs (Claim.arrived s p x a).offset)
          (planBeats (s.plan (s.screen x).geom hs (Claim.arrived s p x a).offset)).length })
      rfl (by simpa [Claim.arrived] using hids)
    rw [hscreens, hscreen]
    dsimp only
    rw [htable]
    refine State.screens_setScreen_of_eq (y := v.screen x) ?_
    rw [hscreen, ← hv]
  · have hnone : v.fetchWait = [] := by
      rw [← hv]
      exact hwait
    rw [hnone, List.nil_append, ← hv] at hsent
    exact hsent
  · rw [hrest, ← hv]
    rfl

/-- Settles O20: the plan by the pane that covers each macropixel, the beats it names by induction on its items, and
the read beat by the composition of the entry it becomes. -/
theorem screenReadSendsFetch : Obligations.ScreenReadSendsFetch :=
  ⟨State.planShown_plan, beatsNamed_planBeats, readFetches⟩

end Sys2Proof.Machine

/-!
The beats that are counted, handed or held back: a write to a screen's window (R120), the oldest waiting composer fetch
(R115), and the beats that pass unchanged or have no place (R149, R151, R158).
-/
namespace Sys2Proof.Machine

-- One theorem after another: each waits for the kernel's check of those before it.
set_option Elab.async false

/-! ### A write to an enabled screen's window (R120) -/

section
variable {s : State} {p : PortTag} {x : ScrId} {a : Addr} {d : Beat} {en : Enables}

/-- The screen once a write to its window has been counted. -/
def Screen.misused (y : Screen) : Screen := { y with misuse := true, misuseCount := y.misuseCount + 1 }

theorem exec_screenWriteBeat (hquiet : s.quiet) (hclass : s.classify (beatBase a) = .screen x) :
    exec (.screenWriteBeat p a d en) s =
      .next ((s.writeDone p).screenWrite x (beatBase a - (s.screen x).geom.base)) := by
  have htake : s.canTake (.beat p a (.write d en)) = true := by
    rw [State.canTake, hclass]
    rfl
  show Host.Outcome.next (s.present (.beat p a (.write d en))) = _
  rw [State.present_of_canTake hquiet htake, State.acceptItem, State.acceptBeat, hclass]
  rfl

/-- With the flag set a write is counted and no more. -/
theorem State.screenWrite_of_misuse (o : Nat) (h : (s.screen x).misuse = true) :
    (s.writeDone p).screenWrite x o =
      { s.setScreen x (s.screen x).misused with port := (s.writeDone p).port } := if_pos h

/-- With the flag clear it is reported, as the state before the write would report it. -/
theorem State.screenWrite_of_not_misuse (o : Nat) (h : (s.screen x).misuse = false) :
    (s.writeDone p).screenWrite x o =
      { s.report .windowMisuse x.val (BitVec.ofNat 32 o) (s.screen x).latchCount with
        screens := (s.setScreen x (s.screen x).misused).screens
        port := (s.writeDone p).port } := by
  have hwrite : (s.writeDone p).screenWrite x o =
      State.report { s.writeDone p with screens := (s.setScreen x (s.screen x).misused).screens, words := s.words }
        .windowMisuse x.val (BitVec.ofNat 32 o) (s.screen x).latchCount :=
    if_neg (ne_true_of_eq_false h)
  have hport := s.report_update s.cams s.words (s.writeDone p).port .windowMisuse x.val (BitVec.ofNat 32 o)
    (s.screen x).latchCount
  rw [hwrite, State.report_screens]
  have hbase : s.writeDone p = { s with cams := s.cams, words := s.words, port := (s.writeDone p).port } := rfl
  rw [hbase, hport, State.report_eq]

end

/-- Settles O21: the misuse flag decides whether the write is reported; what it counts is the same. -/
theorem screenWriteCounted : Obligations.ScreenWriteCounted := by
  intro s p x a d en hquiet hclass
  refine ⟨_, exec_screenWriteBeat hquiet hclass, ?_⟩
  cases hmisuse : (s.screen x).misuse with
  | true =>
    rw [State.screenWrite_of_misuse _ hmisuse]
    exact ⟨rfl, fun _ => ⟨rfl, rfl, rfl⟩, nofun, rfl⟩
  | false =>
    rw [State.screenWrite_of_not_misuse _ hmisuse]
    refine ⟨rfl, nofun, fun _ => ⟨State.attention_report .., rfl, rfl, rfl⟩, ?_⟩
    rw [State.report_eq]

/-! ### A beat handed to a queue (R157, R158) -/

theorem State.handedTo_hand (s : State) (q : Queue) (a : Nat) (op : MemOp) : HandedTo s (s.hand q a op) q a op :=
  ⟨by rw [State.queue_hand, if_pos rfl], rfl, fun r hr => by rw [State.queue_hand, if_neg hr], rfl⟩

/-- Settles O25: the head of the waiting fetches is handed, and no beat held back follows. -/
theorem waitingFetchHanded : Obligations.WaitingFetchHanded := by
  intro s f rest hquiet hwait hroom
  have hnext : s.handNextFetch = { s.handFetch f with fetchWait := rest } := by
    rw [State.handNextFetch, hwait]
    exact if_pos hroom
  have hexec : exec .composerFetchHanding s = .next { s.handFetch f with fetchWait := rest } := by
    show Host.Outcome.next s.handNextFetch.settle = _
    rw [hnext]
    exact congrArg Host.Outcome.next (State.settle_of_empty hquiet)
  obtain ⟨hqueue, -, hkept, -⟩ := s.handedTo_hand .compose f.addr (.read (.compose f))
  exact ⟨_, hexec, rfl, hqueue, hkept, rfl⟩

/-! ### The beats that pass unchanged (R151, R158) -/

theorem State.canTake_of_passes {s : State} {p : PortTag} {a : Addr} {op : BeatOp} (hroom : s.room .pass = true)
    (hclass : s.classify (beatBase a) = .plain ∨ s.classify (beatBase a) = .ring ∨
      op = .read ∧ (s.classify (beatBase a) = .config ∨ s.classify (beatBase a) = .descriptor)) :
    s.canTake (.beat p a op) = true := by
  rw [State.canTake]
  obtain h | h | ⟨rfl, h | h⟩ := hclass
  all_goals rw [h]; exact hroom

theorem State.acceptBeat_of_passes {s : State} {p : PortTag} {a : Addr} {op : BeatOp}
    (hclass : s.classify (beatBase a) = .plain ∨ s.classify (beatBase a) = .ring ∨
      op = .read ∧ (s.classify (beatBase a) = .config ∨ s.classify (beatBase a) = .descriptor)) :
    s.acceptBeat p a op = s.pass p (beatBase a) op := by
  rw [State.acceptBeat]
  obtain h | h | ⟨rfl, h | h⟩ := hclass
  all_goals rw [h]; rfl

/-- A beat passed is handed with its address, data and enables; the port takes a read or finishes a write. -/
theorem State.pass_eq (s : State) (p : PortTag) (a : Nat) (op : BeatOp) :
    s.pass p a op = { s.hand .pass a (Claim.passed s p op) with port := Claim.passedPort s p op } := by
  cases op <;> rfl

theorem plainPassed (s : State) (p : PortTag) (a : Addr) (op : BeatOp) : Claim.PlainPassed s p a op := by
  intro hquiet hroom hclass
  refine ⟨s.pass p (beatBase a) op, ?_, ?_⟩
  · show Host.Outcome.next (s.present (.beat p a op)) = _
    rw [State.present_of_canTake hquiet (State.canTake_of_passes hroom hclass), State.acceptItem,
      State.acceptBeat_of_passes hclass]
  · rw [State.pass_eq]
    exact ⟨s.handedTo_hand .pass (beatBase a) (Claim.passed s p op), rfl⟩

/-! ### The beats held back (R149) -/

/-- Every command of the upstream port presents its item there. -/
theorem exec_of_itemOf {s : State} {i : Instr} {x : UpItem} (h : Claim.itemOf i = some x) :
    exec i s = .next (s.present x) := by
  cases i <;> cases h <;> rfl

theorem State.present_of_not_canTake {s : State} {x : UpItem} (h : s.canTake x = false) :
    s.present x = { s with port := { s.port with held := s.port.held ++ [x] } } := by
  rw [State.present, h, Bool.and_false]
  rfl

theorem State.present_of_held {s : State} {x : UpItem} (h : s.port.held ≠ []) :
    s.present x = { s with port := { s.port with held := s.port.held ++ [x] } } := by
  rw [State.present, List.isEmpty_eq_false_iff.mpr h, Bool.false_and]
  rfl

theorem State.room_eq_false {s : State} {q : Queue} (h : 16 ≤ (s.queue q).length) : s.room q = false :=
  decide_eq_false (Nat.not_lt.mpr h)

/-- The beat of a slot's frame, and beat 0 where a slot can be taken, is stored (R8 to R12). -/
theorem State.intakeStores_of_needsIntake {s : State} {c : CamId} {a : Nat}
    (h : Claim.needsIntake (s.cam c) (s.intakeIndex c a)) : s.intakeStores c a = true := by
  obtain ⟨hlt, ⟨hb, r, j, hr, hj⟩ | ⟨hb, hnone, j, hj⟩⟩ := h
  · rw [State.intakeStores]
    dsimp only
    rw [if_neg (Nat.not_le.mpr hlt), if_neg hb, hr]
    exact Option.isSome_iff_exists.mpr ⟨j, hj⟩
  · have hcut : (s.cam c).cutShort = s.cam c := by
      unfold Camera.cutShort
      rw [hnone]
    rw [State.intakeStores]
    dsimp only
    rw [if_neg (Nat.not_le.mpr hlt), if_pos hb, State.cam_frameStart_self, Camera.frameStarted, hcut]
    exact Option.isSome_iff_exists.mpr ⟨j, hj⟩

theorem State.roomFor_of_noRoom {s : State} {a : Nat} {op : BeatOp} (h : Claim.noRoom s a op) :
    s.roomFor (s.classify a) a op = false := by
  unfold Claim.noRoom at h
  split at h
  · next hc => rw [hc]; exact State.room_eq_false h
  · next hc => rw [hc]; exact State.room_eq_false h
  · next hc => rw [hc]; exact State.room_eq_false h
  · next hc => rw [hc]; exact State.room_eq_false h
  · next c d en hc =>
    obtain ⟨hfull, b, -, ha, hneeds⟩ := h
    have hb : s.intakeIndex c a = b := by
      rw [State.intakeIndex]
      omega
    rw [hc, State.roomFor, State.intakeStores_of_needsIntake (by rwa [hb]), State.room_eq_false hfull]
    rfl
  · next c hc =>
    obtain ⟨hfull, j, hj⟩ := h
    rw [hc, State.roomFor, hj, State.room_eq_false hfull]
    rfl
  · next x hc =>
    rw [hc]
    exact decide_eq_false (Nat.not_lt.mpr h)
  · exact h.elim

theorem heldBack (s : State) (i : Instr) (p : PortTag) (a : Addr) (op : BeatOp) : Claim.HeldBack s i p a op := by
  intro hitem hquiet hfull
  have htake : s.canTake (.beat p a op) = false := State.roomFor_of_noRoom hfull
  rw [exec_of_itemOf hitem, State.present_of_not_canTake htake, hquiet]
  rfl

theorem heldBehind (s : State) (i : Instr) (x : UpItem) : Claim.HeldBehind s i x := by
  intro hitem hheld
  rw [exec_of_itemOf hitem, State.present_of_held hheld]

/-- Settles O48: the class of the beat decides whether it passes, and the room for it whether it is held back. -/
theorem plainBeatPassesUnchanged : Obligations.PlainBeatPassesUnchanged :=
  ⟨plainPassed, State.handedTo_hand, heldBack, heldBehind⟩

end Sys2Proof.Machine
